-- ==== Sys2Proof/Word.lean ====
section
/-! DEFINITION. The value types of the block (00_scope.md R12, R13): unsigned values of a stated width. -/

namespace Sys2Proof

/-- `u32`, the width of every data word (00_scope.md R8 `XLEN`, R12). -/
abbrev Word := BitVec 32

/-- One byte of the region (20_memory.md R60). -/
abbrev Byte := BitVec 8

/-- A byte offset into the region: the block issues 12-bit numbers (20_memory.md R60). -/
abbrev Offset := BitVec 12

end Sys2Proof
end

