-- ==== Sys2Proof/Syntax.lean ====
section
/-! DEFINITION. The instructions: one constructor for each row of spec/opcode_table.json. The first 26 are
the sequencer's steps in the order of their codes (30_encoding.md R92), the last 10 the host operations
(30_encoding.md R97). -/

namespace Sys2Proof

/-- A step has no operand: which registers it touches is fixed by its code (30_encoding.md R91). A host write
carries the whole 32-bit datum, of which the operation keeps some bits (R96, R100); a host read carries
nothing, its datum is returned. -/
inductive Instr where
  | idle
  | init
  | fetch
  | m0
  | m1
  | m2
  | m3
  | m9
  | m4
  | m7
  | m6
  | m5
  | m8
  | term
  | x15
  | x14
  | x13
  | x10
  | x11
  | x12
  | finit
  | f0
  | f1
  | f2
  | f3
  | fsum
  | start (wdata : Word)
  | nopctrl (wdata : Word)
  | rdctrl
  | rdstatus
  | wrseed (wdata : Word)
  | rdseed
  | wrorder (wdata : Word)
  | rdorder
  | rdchkhi
  | rdchklo
  deriving DecidableEq, Repr

end Sys2Proof
end

