-- ==== Sys2Proof/WellFormed.lean ====
section
/-! DEFINITION. Which terms of `Instr` an encoding exists for. -/

namespace Sys2Proof

/-- The two operations on register 0 are told apart by bit 0 of the datum: 1 for `START`, 0 for `NOPCTRL`
(30_encoding.md R97). Every other datum is legal (R100). -/
def Instr.wf : Instr → Bool
  | .start wdata => wdata.getLsbD 0
  | .nopctrl wdata => !wdata.getLsbD 0
  | .idle | .init | .fetch | .m0 | .m1 | .m2 | .m3 | .m9 | .m4 | .m7 | .m6 | .m5 | .m8 | .term => true
  | .x15 | .x14 | .x13 | .x10 | .x11 | .x12 => true
  | .finit | .f0 | .f1 | .f2 | .f3 | .fsum => true
  | .rdctrl | .rdstatus | .wrseed _ | .rdseed | .wrorder _ | .rdorder | .rdchkhi | .rdchklo => true

end Sys2Proof
end

