-- ==== Sys2Proof/Decode.lean ====
section
/-! DEFINITION. The two encodings (30_encoding.md R90, R91, R96), the decoder and the encoder. -/

namespace Sys2Proof

/-- Format `HOST` (30_encoding.md R96): direction, register number, and on a write the datum. The datum of a
read is returned by the block, so it is no part of the access. -/
inductive HostAccess where
  | write (reg : Nat) (wdata : Word)
  | read (reg : Nat)
  deriving DecidableEq, Repr

/-- What selects an operation: a step code (format `STEP5`, 30_encoding.md R91) or a host access (`HOST`, R96). -/
inductive OpWord where
  | step (code : BitVec 5)
  | host (access : HostAccess)
  deriving DecidableEq, Repr

/-- The names of what the decoder rejects. `reservedStepCode`: codes 26 to 31 (30_encoding.md R102).
`noHostOperation`: a write of register 1, 4 or 5, or any access above register 5, which is no operation of its
own (30_encoding.md R97, 45_host_operations.md R213). -/
inductive DecodeError where
  | reservedStepCode (code : BitVec 5)
  | noHostOperation (access : HostAccess)
  deriving DecidableEq, Repr

/-! ### Step codes (30_encoding.md R92) -/

def Code.idle : BitVec 5 := 0b00000#5
def Code.init : BitVec 5 := 0b00001#5
def Code.fetch : BitVec 5 := 0b00010#5
def Code.m0 : BitVec 5 := 0b00011#5
def Code.m1 : BitVec 5 := 0b00100#5
def Code.m2 : BitVec 5 := 0b00101#5
def Code.m3 : BitVec 5 := 0b00110#5
def Code.m9 : BitVec 5 := 0b00111#5
def Code.m4 : BitVec 5 := 0b01000#5
def Code.m7 : BitVec 5 := 0b01001#5
def Code.m6 : BitVec 5 := 0b01010#5
def Code.m5 : BitVec 5 := 0b01011#5
def Code.m8 : BitVec 5 := 0b01100#5
def Code.term : BitVec 5 := 0b01101#5
def Code.x15 : BitVec 5 := 0b01110#5
def Code.x14 : BitVec 5 := 0b01111#5
def Code.x13 : BitVec 5 := 0b10000#5
def Code.x10 : BitVec 5 := 0b10001#5
def Code.x11 : BitVec 5 := 0b10010#5
def Code.x12 : BitVec 5 := 0b10011#5
def Code.finit : BitVec 5 := 0b10100#5
def Code.f0 : BitVec 5 := 0b10101#5
def Code.f1 : BitVec 5 := 0b10110#5
def Code.f2 : BitVec 5 := 0b10111#5
def Code.f3 : BitVec 5 := 0b11000#5
def Code.fsum : BitVec 5 := 0b11001#5

/-! ### Register numbers (10_state.md R40) -/

def Reg.ctrl : Nat := 0
def Reg.status : Nat := 1
def Reg.seed : Nat := 2
def Reg.order : Nat := 3
def Reg.chkHi : Nat := 4
def Reg.chkLo : Nat := 5

/-! ### Decoder -/

/-- A step code names its step; 26 to 31 are reserved and never fall through to `IDLE` (30_encoding.md R92, R102). -/
def decodeStep (code : BitVec 5) : Except DecodeError Instr :=
  match code.toNat with
  | 0 => .ok .idle
  | 1 => .ok .init
  | 2 => .ok .fetch
  | 3 => .ok .m0
  | 4 => .ok .m1
  | 5 => .ok .m2
  | 6 => .ok .m3
  | 7 => .ok .m9
  | 8 => .ok .m4
  | 9 => .ok .m7
  | 10 => .ok .m6
  | 11 => .ok .m5
  | 12 => .ok .m8
  | 13 => .ok .term
  | 14 => .ok .x15
  | 15 => .ok .x14
  | 16 => .ok .x13
  | 17 => .ok .x10
  | 18 => .ok .x11
  | 19 => .ok .x12
  | 20 => .ok .finit
  | 21 => .ok .f0
  | 22 => .ok .f1
  | 23 => .ok .f2
  | 24 => .ok .f3
  | 25 => .ok .fsum
  | _ => .error (.reservedStepCode code)

/-- A host access names its operation by direction, register number and, for register 0, bit 0 of the datum
(30_encoding.md R97). -/
def decodeHost : HostAccess → Except DecodeError Instr
  | .write 0 wdata => if wdata.getLsbD 0 then .ok (.start wdata) else .ok (.nopctrl wdata)
  | .write 2 wdata => .ok (.wrseed wdata)
  | .write 3 wdata => .ok (.wrorder wdata)
  | .write reg wdata => .error (.noHostOperation (.write reg wdata))
  | .read 0 => .ok .rdctrl
  | .read 1 => .ok .rdstatus
  | .read 2 => .ok .rdseed
  | .read 3 => .ok .rdorder
  | .read 4 => .ok .rdchkhi
  | .read 5 => .ok .rdchklo
  | .read reg => .error (.noHostOperation (.read reg))

def decode : OpWord → Except DecodeError Instr
  | .step code => decodeStep code
  | .host access => decodeHost access

/-! ### Encoder -/

/-- The code or access of each instruction, from the tables of 30_encoding.md R92 and R97. -/
def encode : Instr → OpWord
  | .idle => .step Code.idle
  | .init => .step Code.init
  | .fetch => .step Code.fetch
  | .m0 => .step Code.m0
  | .m1 => .step Code.m1
  | .m2 => .step Code.m2
  | .m3 => .step Code.m3
  | .m9 => .step Code.m9
  | .m4 => .step Code.m4
  | .m7 => .step Code.m7
  | .m6 => .step Code.m6
  | .m5 => .step Code.m5
  | .m8 => .step Code.m8
  | .term => .step Code.term
  | .x15 => .step Code.x15
  | .x14 => .step Code.x14
  | .x13 => .step Code.x13
  | .x10 => .step Code.x10
  | .x11 => .step Code.x11
  | .x12 => .step Code.x12
  | .finit => .step Code.finit
  | .f0 => .step Code.f0
  | .f1 => .step Code.f1
  | .f2 => .step Code.f2
  | .f3 => .step Code.f3
  | .fsum => .step Code.fsum
  | .start wdata => .host (.write Reg.ctrl wdata)
  | .nopctrl wdata => .host (.write Reg.ctrl wdata)
  | .rdctrl => .host (.read Reg.ctrl)
  | .rdstatus => .host (.read Reg.status)
  | .wrseed wdata => .host (.write Reg.seed wdata)
  | .rdseed => .host (.read Reg.seed)
  | .wrorder wdata => .host (.write Reg.order wdata)
  | .rdorder => .host (.read Reg.order)
  | .rdchkhi => .host (.read Reg.chkHi)
  | .rdchklo => .host (.read Reg.chkLo)

/-! ### Words as the opcode table numbers their bits -/

/-- DESIGN CHOICE (log entry 12). The operation a flat word of the opcode table stands for. A row of at most one
byte is a step code, bits 4:0. A longer row is a host access: bits 31:0 the datum, as 30_encoding.md R96 prints
it; the table gives the direction and the register number no bits, so the model lays them above the datum,
bit 32 the direction (0 write, 1 read) and bits 33 and up the register number. -/
def OpWord.ofTable (nbits w : Nat) : Option OpWord :=
  if nbits ≤ 8 then
    if w < 32 then some (.step (BitVec.ofNat 5 w)) else none
  else if w / 2 ^ 32 % 2 = 0 then some (.host (.write (w / 2 ^ 33) (BitVec.ofNat 32 w)))
  else some (.host (.read (w / 2 ^ 33)))

/-- The instruction the decoder reads from a table word (none where it rejects the word). -/
def decodeTableWord (nbits w : Nat) : Option Instr :=
  match OpWord.ofTable nbits w with
  | none => none
  | some o => (decode o).toOption

end Sys2Proof
end

