-- ==== Sys2Proof/Config.lean ====
section
/-! DEFINITION. What the spec leaves to the implementation (00_scope.md R9) and the one stream of
unspecified values. The hardwired constants of 30_encoding.md R94 are in Machine/Operands.lean. -/

namespace Sys2Proof

/-- DESIGN CHOICE (log entries 2, 3, 10, 14: safe; as the contents after reset, log entry 1: unsafe). The `k`-th unspecified 32-bit value. It has no body:
nothing can be proved of any value of it, as 10_state.md R32 and R33 ask. -/
opaque Config.freeValue : Nat → Word

/-- `REGION_WINDOW`: size in bytes of the window the block can address (00_scope.md R9, 20_memory.md R60). -/
def Config.regionWindow : Nat := 4096

/-- The default of the open parameter `REGION_LEN` (00_scope.md R9; log entry 7, safe). -/
def Config.regionLenDefault : Nat := 4096

/-- DESIGN CHOICE (log entry 6; unsafe). What a backed byte of the region reads as when the region's list does
not name it: the spec gives the region no contents of its own (10_state.md R50). -/
def Config.unlistedByte : Byte := 0x00#8

end Sys2Proof
end

