-- ==== Sys2Proof/Machine/Memory.lean ====
section
/-! DEFINITION. The region's bytes as a list in one canonical form (20_memory.md R60): offsets strictly rising,
all inside the window and the backed length, no entry equal to what an unlisted byte reads as. -/

namespace Sys2Proof.Machine

/-- The backing buffer of the region. -/
abbrev Memory := List Host.Cell

/-- What `MemRead(o, 1)` gives at and beyond `REGION_LEN` (00_scope.md R9 `OOR_FILL`, 20_memory.md R61). -/
def oorFill : Byte := 0x00#8

/-- The byte the backing buffer holds at offset `o`. -/
def Memory.read : Memory → Nat → Byte
  | [], _ => Config.unlistedByte
  | (k, b) :: rest, o => if k = o then b else Memory.read rest o

/-- The buffer with byte `b` at offset `o`. Only the platform stores (20_memory.md R60: the block has no write path). -/
def Memory.write : Memory → Nat → Byte → Memory
  | [], o, b => if b = Config.unlistedByte then [] else [(o, b)]
  | (k, c) :: rest, o, b =>
    if o < k then
      if b = Config.unlistedByte then (k, c) :: rest else (o, b) :: (k, c) :: rest
    else if o = k then
      if b = Config.unlistedByte then rest else (o, b) :: rest
    else (k, c) :: Memory.write rest o b

/-- The canonical form of a buffer of which `len` bytes are backed. -/
abbrev Memory.wf (len : Nat) (m : Memory) : Prop :=
  m.Pairwise (fun c d => c.1 < d.1) ∧
    ∀ c ∈ m, c.2 ≠ Config.unlistedByte ∧ c.1 < len ∧ c.1 < Config.regionWindow

end Sys2Proof.Machine
end

