-- ==== Sys2Proof/Machine/State.lean ====
section
/-! DEFINITION. The state of one instance of the block (10_state.md R20), the platform's side the spec makes a
parameter of the step relation (R50), and the model's own queue, observations and counter of unspecified
values. -/

namespace Sys2Proof.Machine

/-- One coming action of the outside world, or the sequencer's turn between two of them (00_scope.md R10;
log entry 4). -/
inductive Event where
  /-- The sequencer takes its step. -/
  | tick
  /-- The host does one register access (45_host_operations.md R200). -/
  | host (access : HostAccess)
  /-- The external reset (70_reset_and_hazards.md R250). -/
  | reset
  /-- The platform stores one byte of the region (20_memory.md R75). -/
  | store (o : Offset) (b : Byte)
  deriving DecidableEq, Repr

/-- Why the machine stops with a fault. The spec has no exception (60_exceptions.md R230). -/
inductive Fault where
  /-- Raised by `step` when the sequencer's turn finds a code 26 to 31 in `STEP`. 30_encoding.md R102 asks a model
  that keeps a 5-bit number to treat it as a fault, never as `IDLE`; no run reaches it. Safe. -/
  | reservedStepCode (code : BitVec 5)
  deriving DecidableEq, Repr

/-- Why a step of the model has no meaning. -/
inductive Refusal where
  /-- An instruction without a meaning in this model. No arm of `exec` raises it. Safe. -/
  | notModelled (mnemonic : String)
  /-- Raised by `step` when the platform changes a byte of the region while a computation runs: 20_memory.md R75
  and 70_reset_and_hazards.md R253 ask a model to refuse such a run. Safe. -/
  | regionChangedWhileBusy
  deriving DecidableEq, Repr

structure State where
  /-- `BUF[0..15]`, the Accumulator State (R21). -/
  buf : Vector Word 16
  /-- `CB[0..3]`, the Condensation Buffer (R23). -/
  cb : Vector Word 4
  /-- `DATA_LAST` (R24). -/
  dataLast : Word
  /-- `DATA` (R24). -/
  data : Word
  /-- `DATA_NEXT` (R24). -/
  dataNext : Word
  /-- `ROTR5` (R25). -/
  rotr5 : Word
  /-- `ROTL2` (R25). -/
  rotl2 : Word
  /-- `FDATA` (R26). -/
  fdata : Word
  /-- `TMP` (R26). -/
  tmp : Word
  /-- `LOOP`, the iteration counter (R27). -/
  loop : BitVec 11
  /-- `STEP`, the program counter (R28; log entry 9, safe). -/
  step : BitVec 5
  /-- `DONE` (R29). -/
  done : Bool
  /-- `SEED` (R43). -/
  seed : BitVec 8
  /-- `ORDER` (R44). -/
  order : BitVec 2
  /-- `CHK_HI` (R45). -/
  chkHi : BitVec 16
  /-- `CHK_LO` (R46). -/
  chkLo : Word
  /-- The platform's: the region's contents (R50). -/
  region : Memory
  /-- The platform's: `REGION_LEN` (00_scope.md R9). -/
  regionLen : Nat
  /-- The model's own: what the outside world does next, in order (log entry 4). -/
  inputs : List Event
  /-- The model's own: the data host reads returned, newest first (log entry 5). -/
  replies : List Word
  /-- The model's own: the offsets of the region words read, newest first (log entry 5). -/
  reads : List Offset
  /-- The model's own: how many unspecified values have been drawn (log entry 2). -/
  draws : Nat
  deriving DecidableEq, Repr

/-- The effect of reset on the block (10_state.md R51), with the platform's side and the observations as given
and the unspecified contents drawn from `n` on. -/
def State.afterReset (n : Nat) (region : Memory) (regionLen : Nat) (inputs : List Event)
    (replies : List Word) (reads : List Offset) : State where
  buf := Vector.ofFn fun i => Config.freeValue (n + i.val)
  cb := Vector.ofFn fun i => Config.freeValue (n + 16 + i.val)
  dataLast := Config.freeValue (n + 20)
  data := Config.freeValue (n + 21)
  dataNext := Config.freeValue (n + 22)
  rotr5 := Config.freeValue (n + 23)
  rotl2 := Config.freeValue (n + 24)
  fdata := Config.freeValue (n + 25)
  tmp := Config.freeValue (n + 26)
  loop := (Config.freeValue (n + 27)).setWidth 11
  step := Code.idle
  done := false
  seed := 0x00#8
  order := 0#2
  chkHi := (Config.freeValue (n + 28)).setWidth 16
  chkLo := Config.freeValue (n + 29)
  region := region
  regionLen := regionLen
  inputs := inputs
  replies := replies
  reads := reads
  draws := n + 30

/-- The machine right after reset: `STEP`, `DONE`, `SEED`, `ORDER` as 10_state.md R51 says. DESIGN CHOICE (log
entry 1): the registers R51 gives no value hold the unspecified values `Config.freeValue 0` to
`Config.freeValue 29`; nothing is listed in the region, nothing is waiting, nothing has been observed. -/
def State.reset : State := State.afterReset 0 [] Config.regionLenDefault [] [] []

end Sys2Proof.Machine
end

