-- ==== Sys2Proof/Machine/Flags.lean ====
section
/-! DEFINITION. The two status flags (10_state.md R29), the word `STATUS` returns, the output wire. There are no
condition codes (R30). -/

namespace Sys2Proof.Machine

/-- `BUSY`: not stored, 1 exactly when `STEP` is not `IDLE` (R29). -/
def State.busy (s : State) : Bool := s.step != Code.idle

/-- No Word Source is bound: `ORDER` holds the reserved code 3 (30_encoding.md R98). -/
def State.unbound (s : State) : Bool := s.order == 3#2

/-- `zext_32({DONE, BUSY})` (R42). -/
def State.statusWord (s : State) : Word := 0#30 ++ (BitVec.ofBool s.done ++ BitVec.ofBool s.busy)

/-- The level of the output wire `done` (R47, 60_exceptions.md R233). -/
def State.doneWire (s : State) : Bool := s.done

end Sys2Proof.Machine
end

