-- ==== Sys2Proof/Machine/Datapath.lean ====
section
/-! DEFINITION. The datapath primitives (40_datapath_primitives.md): pure functions, no state, no flags, no
exceptions. Addition and subtraction are those of `BitVec 32`, modulo 2^32 (R121, R122). -/

namespace Sys2Proof.Machine

/-- `a < b` on unsigned values (R124). -/
def ltu (a b : Word) : Bool := decide (a.toNat < b.toNat)

/-- Rotate right by a 5-bit amount; by 0 the identity, so that no shift by 32 is taken (R125). -/
def rotr32 (v : Word) (s : BitVec 5) : Word :=
  if s = 0#5 then v else (v >>> s.toNat) ||| (v <<< (32 - s.toNat))

/-- Rotate left by a 5-bit amount; by 0 the identity (R126). -/
def rotl32 (v : Word) (s : BitVec 5) : Word :=
  if s = 0#5 then v else (v <<< s.toNat) ||| (v >>> (32 - s.toNat))

/-- The full 64-bit unsigned product (R127). -/
def mul64 (a b : Word) : BitVec 64 := a.setWidth 64 * b.setWidth 64

/-- `p[63:32]` (R127). -/
def hi32 (p : BitVec 64) : Word := p.extractLsb' 32 32

/-- `p[31:0]` (R127). -/
def lo32 (p : BitVec 64) : Word := p.extractLsb' 0 32

/-- The Mixing Primitive (R128). -/
def mix (x y z : Word) : Word :=
  let y' := if y = 0#32 then z else y
  let p := mul64 x y'
  let diff := hi32 p - lo32 p
  if diff = 0#32 then x else diff

/-- A 32-bit word from the four bytes at increasing offsets (20_memory.md R64): `ORDER` 0 big-endian, 1
byte-swapped, 2 little-endian. No computation runs under the reserved code 3, for which the word is `unbound`
(log entry 10). -/
def assemble (order : BitVec 2) (b0 b1 b2 b3 : Byte) (unbound : Word) : Word :=
  match order.toNat with
  | 0 => b0 ++ b1 ++ b2 ++ b3
  | 1 => b1 ++ b0 ++ b3 ++ b2
  | 2 => b3 ++ b2 ++ b1 ++ b0
  | _ => unbound

end Sys2Proof.Machine
end

