-- ==== Sys2Proof/Machine/Operands.lean ====
section
/-! DEFINITION. The hardwired constants (30_encoding.md R94) and every operand form (R95). -/

namespace Sys2Proof.Machine

/-! ### Constants (30_encoding.md R94) -/

/-- `MAGIC`: multiplier of `INIT`, second operand of `M3`. -/
def magic : Word := 0x6C078965#32
/-- The addend of `INIT`. -/
def initAddend : Word := 1#32
/-- `K0`: the minuend of `1007 - loop` in `M0`. -/
def k0 : Word := 1007#32
/-- `K3`: the addend of `data + 5` in `M3`. -/
def k3 : Word := 5#32
/-- `KSUM`: the third operand of the last Mix. -/
def ksum : Word := 16#32
/-- `NITER`: the loop bound `TERM` tests. -/
def niter : BitVec 11 := 1008#11
/-- The last index of the finalizer pass, which `F3` tests. -/
def lastPass : BitVec 11 := 15#11

/-! ### Fields of a data word (30_encoding.md R95) -/

/-- `v[4:0]`: PIFDOC's `v & 0x1f`. -/
def lo5 (v : Word) : BitVec 5 := v.extractLsb' 0 5
/-- `v[31:27]`: PIFDOC's `v >> 27`. -/
def hi5 (v : Word) : BitVec 5 := v.extractLsb' 27 5
/-- `v[0]`. -/
def bit0 (v : Word) : Bool := v.getLsbD 0
/-- `v[1]`. -/
def bit1 (v : Word) : Bool := v.getLsbD 1

/-! ### Operands read from the state -/

/-- `BUF[i]` (00_scope.md R15). -/
def State.bufGet (s : State) (i : Fin 16) : Word := s.buf[i]
/-- `CB[i]` (00_scope.md R15). -/
def State.cbGet (s : State) (i : Fin 4) : Word := s.cb[i]
/-- `BUF[LOOP[3:0]]`, the operand of `F0` (44_finalizer.md R182). -/
def State.bufLoop (s : State) : Word := s.bufGet ⟨(s.loop.extractLsb' 0 4).toNat, (s.loop.extractLsb' 0 4).isLt⟩
/-- `zext_32(LOOP)` (40_datapath_primitives.md R131). -/
def State.loopZ (s : State) : Word := s.loop.setWidth 32
/-- `zext_32(SEED)`, the seed operand of `INIT`. -/
def State.seedZ (s : State) : Word := s.seed.setWidth 32

/-! ### Region offsets (20_memory.md R68) -/

/-- The offset `INIT` reads. -/
def initOffset : Offset := 0#12
/-- `4*(LOOP - 1)`, the offset `FETCH` reads, of the new value of `LOOP`; a 12-bit number (R60; log entry 11). -/
def fetchOffset (newLoop : BitVec 11) : Offset := (newLoop - 1#11).setWidth 12 * 4#12
/-- `4*LOOP`, the offset `TERM` reads; a 12-bit number (R60; log entry 11). -/
def termOffset (loop : BitVec 11) : Offset := loop.setWidth 12 * 4#12

/-! ### Fields of a written datum (30_encoding.md R100) -/

/-- Bits 7:0, what `WRSEED` keeps. -/
def seedField (wdata : Word) : BitVec 8 := wdata.extractLsb' 0 8
/-- Bits 1:0, what `WRORDER` keeps. -/
def orderField (wdata : Word) : BitVec 2 := wdata.extractLsb' 0 2

end Sys2Proof.Machine
end

