-- ==== Sys2Proof/Machine/Ops.lean ====
section
/-! DEFINITION. The named operations over registers, region and outside events. There is no operation that takes
an exception and none that returns from one: the block has no trap entry, no trap return and no mode
(60_exceptions.md R230, R235, R236). -/

namespace Sys2Proof.Machine

/-! ### Registers (00_scope.md R15) -/

/-- `BUF[i] <- v`. -/
def State.setBuf (s : State) (i : Fin 16) (v : Word) : State := { s with buf := s.buf.set i.val v i.isLt }
/-- `BUF[i] <- v` for every `i` (`INIT`). -/
def State.fillBuf (s : State) (v : Word) : State := { s with buf := Vector.replicate 16 v }
/-- `CB[i] <- v`. -/
def State.setCb (s : State) (i : Fin 4) (v : Word) : State := { s with cb := s.cb.set i.val v i.isLt }
/-- `CB[i] <- v` for every `i` (`FINIT`). -/
def State.fillCb (s : State) (v : Word) : State := { s with cb := Vector.replicate 4 v }
/-- `STEP <- code`, the last action of every step (10_state.md R28). -/
def State.goto (s : State) (code : BitVec 5) : State := { s with step := code }

/-! ### Region reads (20_memory.md R61, R64) -/

/-- `MemRead(o, 1)`: the backing buffer below `REGION_LEN`, zero-fill from there on (R61). -/
def State.readByte (s : State) (o : Offset) : Byte :=
  if o.toNat < s.regionLen then Memory.read s.region o.toNat else oorFill

/-- The value of `MemRead(o, 4)` (R64). Under the reserved `ORDER` 3 it is the next unspecified value (log
entry 10). -/
def State.wordAt (s : State) (o : Offset) : Word :=
  assemble s.order (s.readByte o) (s.readByte (o + 1#12)) (s.readByte (o + 2#12)) (s.readByte (o + 3#12))
    (Config.freeValue s.draws)

/-- `W(k) = MemRead(4*k, 4)` (00_scope.md R16). -/
def State.wordNo (s : State) (k : Nat) : Word := s.wordAt (BitVec.ofNat 12 (4 * k))

/-- The state after a word read: nothing but the observation of the read, and the draw of an unspecified value
where no Word Source is bound (20_memory.md R72: a region read has no side effect). -/
def State.noteRead (s : State) (o : Offset) : State :=
  { s with reads := o :: s.reads, draws := if s.unbound then s.draws + 1 else s.draws }

/-! ### Host port (45_host_operations.md) -/

/-- A host read returns `v`. -/
def State.reply (s : State) (v : Word) : State := { s with replies := v :: s.replies }

/-- A host read returns an unspecified 32-bit value, drawn afresh (10_state.md R33, 70_reset_and_hazards.md R254;
log entry 2). -/
def State.replyOpen (s : State) : State :=
  { s with replies := Config.freeValue s.draws :: s.replies, draws := s.draws + 1 }

/-- `CHK_HI` and `CHK_LO` cease to hold a value (10_state.md R33, 45_host_operations.md R201; log entry 3). -/
def State.dropResult (s : State) : State :=
  { s with chkHi := (Config.freeValue s.draws).setWidth 16, chkLo := Config.freeValue (s.draws + 1), draws := s.draws + 2 }

/-- An access that is no operation of its own (45_host_operations.md R213): a write changes nothing, a read of a
number above 5 returns 0. -/
def nullAccess (access : HostAccess) (s : State) : State :=
  match access with
  | .write _ _ => s
  | .read _ => s.reply 0#32

/-! ### Outside events -/

/-- The external reset (70_reset_and_hazards.md R250): 10_state.md R51 assigned in any state, the registers it gives
no value left with unspecified values drawn afresh (log entry 14). Region, `REGION_LEN`, waiting events and
observations are not the block's and stay. -/
def hardReset (s : State) : State :=
  State.afterReset s.draws s.region s.regionLen s.inputs s.replies s.reads

/-- The region with the byte at `o` stored by the platform; an offset at or beyond `REGION_LEN` has no backing byte
(20_memory.md R61; log entry 8). -/
def State.storedRegion (s : State) (o : Offset) (b : Byte) : Memory :=
  if o.toNat < s.regionLen then Memory.write s.region o.toNat b else s.region

/-- The platform stores a byte of the region: allowed while `BUSY = 0`, and refused while `BUSY = 1` if it changes
the region (20_memory.md R75, 70_reset_and_hazards.md R253). -/
def platformStore (o : Offset) (b : Byte) (s : State) : Host.Outcome State Fault Refusal :=
  if s.busy && s.storedRegion o b != s.region then .refused .regionChangedWhileBusy
  else .next { s with region := s.storedRegion o b }

/-- What a word the decoder rejects does: a reserved step code is a fault (30_encoding.md R102), an access that is
no operation has its null effect (45_host_operations.md R213). -/
def rejected (e : DecodeError) (s : State) : Host.Outcome State Fault Refusal :=
  match e with
  | .reservedStepCode code => .fault (.reservedStepCode code)
  | .noHostOperation access => .next (nullAccess access s)

end Sys2Proof.Machine
end

