-- ==== Sys2Proof/Machine/Finalizer.lean ====
section
/-! DEFINITION. The Finalizer (44_finalizer.md): sixteen passes over `BUF`, then the checksum. -/

namespace Sys2Proof.Machine

/-- `FINIT` (R181): `CB[0..3] <- BUF[0]`, `LOOP <- 0`. -/
def execFinit (s : State) : Host.Outcome State Fault Refusal :=
  .next ({ s.fillCb (s.bufGet 0) with loop := 0#11 }.goto Code.f0)

/-- `F0` (R182): `FDATA <- BUF[LOOP[3:0]]`, `TMP <- CB[0] + rotr32(FDATA, FDATA[4:0])`, `CB[0] <- TMP`. -/
def execF0 (s : State) : Host.Outcome State Fault Refusal :=
  let d := s.bufLoop
  let t := s.cbGet 0 + rotr32 d (lo5 d)
  .next (({ s with fdata := d, tmp := t }.setCb 0 t).goto Code.f1)

/-- `F1` (R183): add if `FDATA < TMP`, else Mix. -/
def execF1 (s : State) : Host.Outcome State Fault Refusal :=
  .next ((s.setCb 1
    (if ltu s.fdata s.tmp then s.cbGet 1 + s.fdata else mix (s.cbGet 1) s.fdata s.loopZ)).goto Code.f2)

/-- `F2` (R184): add if the low two bits of `FDATA` are equal, else Mix. -/
def execF2 (s : State) : Host.Outcome State Fault Refusal :=
  .next ((s.setCb 2
    (if bit1 s.fdata = bit0 s.fdata then s.cbGet 2 + s.fdata else mix (s.cbGet 2) s.fdata s.loopZ)).goto Code.f3)

/-- The loop control of the pass, the second half of `F3` (R185). -/
def State.nextPass (s : State) : State :=
  if s.loop = lastPass then s.goto Code.fsum else { s with loop := s.loop + 1#11 }.goto Code.f0

/-- `F3` (R185): XOR if `FDATA` is odd, else Mix with `LOOP` before its increment. -/
def execF3 (s : State) : Host.Outcome State Fault Refusal :=
  .next (s.setCb 3
    (if bit0 s.fdata then s.cbGet 3 ^^^ s.fdata else mix (s.cbGet 3) s.fdata s.loopZ)).nextPass

/-- `FSUM` (R186): the checksum's two parts and `DONE`, written in one step. -/
def execFsum (s : State) : Host.Outcome State Fault Refusal :=
  let sum := mix (s.cbGet 0) (s.cbGet 1) ksum
  .next ({ s with chkHi := sum.extractLsb' 0 16, chkLo := s.cbGet 3 ^^^ s.cbGet 2, done := true }.goto Code.idle)

end Sys2Proof.Machine
end

