-- ==== Sys2Proof/Machine/HostOps.lean ====
section
/-! DEFINITION. The `IDLE` step and the ten host operations (45_host_operations.md). -/

namespace Sys2Proof.Machine

/-- `IDLE` (R210): the sequencer has no enabled step, nothing changes (DEDUCED, safe:
log entry 16). -/
def execIdle (s : State) : Host.Outcome State Fault Refusal := .next s

/-- `START`: accepted when idle with a Word Source bound (R201), else silently ignored (R202). Bits 31:1 of the
datum are ignored (10_state.md R41); the decoder has seen bit 0 (DESIGN CHOICE, safe: log entry 17). -/
def execStart (_wdata : Word) (s : State) : Host.Outcome State Fault Refusal :=
  .next (if s.busy || s.unbound then s else { s.dropResult with done := false }.goto Code.init)

/-- `NOPCTRL` (R203): nothing, whatever bits 31:1 hold. -/
def execNopctrl (_wdata : Word) (s : State) : Host.Outcome State Fault Refusal := .next s

/-- `RDCTRL` (R204): returns 0. -/
def execRdctrl (s : State) : Host.Outcome State Fault Refusal := .next (s.reply 0#32)

/-- `RDSTATUS` (R205): returns `zext_32({DONE, BUSY})`, clears nothing. -/
def execRdstatus (s : State) : Host.Outcome State Fault Refusal := .next (s.reply s.statusWord)

/-- `WRSEED` (R206): `SEED <- wdata[7:0]` while idle, else nothing. -/
def execWrseed (wdata : Word) (s : State) : Host.Outcome State Fault Refusal :=
  .next (if s.busy then s else { s with seed := seedField wdata })

/-- `RDSEED` (R207): returns `zext_32(SEED)`. -/
def execRdseed (s : State) : Host.Outcome State Fault Refusal := .next (s.reply (s.seed.setWidth 32))

/-- `WRORDER` (R208): `ORDER <- wdata[1:0]` while idle, the reserved 3 included, else nothing. -/
def execWrorder (wdata : Word) (s : State) : Host.Outcome State Fault Refusal :=
  .next (if s.busy then s else { s with order := orderField wdata })

/-- `RDORDER` (R209): returns `zext_32(ORDER)`. -/
def execRdorder (s : State) : Host.Outcome State Fault Refusal := .next (s.reply (s.order.setWidth 32))

/-- `RDCHKHI` (R211): `zext_32(CHK_HI)` while `DONE = 1`, else an unspecified 32-bit value. -/
def execRdchkhi (s : State) : Host.Outcome State Fault Refusal :=
  .next (if s.done then s.reply (s.chkHi.setWidth 32) else s.replyOpen)

/-- `RDCHKLO` (R212): `CHK_LO` while `DONE = 1`, else an unspecified 32-bit value. -/
def execRdchklo (s : State) : Host.Outcome State Fault Refusal :=
  .next (if s.done then s.reply s.chkLo else s.replyOpen)

end Sys2Proof.Machine
end

