-- ==== Sys2Proof/Machine/Initializer.lean ====
section
/-! DEFINITION. The State Initializer (41_initializer.md). -/

namespace Sys2Proof.Machine

/-- The value `INIT` gives every word of `BUF` (R140). -/
def initValue (seedZ w0 : Word) : Word := (lo32 (mul64 magic seedZ) + initAddend) ^^^ w0

/-- `INIT` (R140): `BUF[0..15] <- init`, `DATA <- W(0)`, `LOOP <- 0`, next `FETCH`. -/
def execInit (s : State) : Host.Outcome State Fault Refusal :=
  let w0 := s.wordAt initOffset
  .next ({ (s.noteRead initOffset).fillBuf (initValue s.seedZ w0) with data := w0, loop := 0#11 }.goto Code.fetch)

end Sys2Proof.Machine
end

