-- ==== Sys2Proof/Machine/MixerCore.lean ====
section
/-! DEFINITION. The Iterative Mixer's core block (42_mixer_core.md): the steps of every iteration 1 to 1008. -/

namespace Sys2Proof.Machine

/-- `FETCH` (R151): `LOOP <- LOOP + 1`, `DATA_LAST <- DATA`, `DATA <- W(LOOP-1)` of the new `LOOP`. -/
def execFetch (s : State) : Host.Outcome State Fault Refusal :=
  let loop := s.loop + 1#11
  let o := fetchOffset loop
  .next ({ s.noteRead o with loop := loop, dataLast := s.data, data := s.wordAt o }.goto Code.m0)

/-- `M0` (R152): `BUF[0] += Mix(1007 - LOOP, DATA, LOOP)`. -/
def execM0 (s : State) : Host.Outcome State Fault Refusal :=
  .next ((s.setBuf 0 (s.bufGet 0 + mix (k0 - s.loopZ) s.data s.loopZ)).goto Code.m1)

/-- `M1` (R153): `BUF[1] <- Mix(BUF[1], DATA, LOOP)`. -/
def execM1 (s : State) : Host.Outcome State Fault Refusal :=
  .next ((s.setBuf 1 (mix (s.bufGet 1) s.data s.loopZ)).goto Code.m2)

/-- `M2` (R154): `BUF[2] ^= DATA`. -/
def execM2 (s : State) : Host.Outcome State Fault Refusal :=
  .next ((s.setBuf 2 (s.bufGet 2 ^^^ s.data)).goto Code.m3)

/-- `M3` (R155): `BUF[3] += Mix(DATA + 5, MAGIC, LOOP)`. -/
def execM3 (s : State) : Host.Outcome State Fault Refusal :=
  .next ((s.setBuf 3 (s.bufGet 3 + mix (s.data + k3) magic s.loopZ)).goto Code.m9)

/-- `M9` (R156): Mix if `DATA_LAST < DATA`, else add. -/
def execM9 (s : State) : Host.Outcome State Fault Refusal :=
  .next ((s.setBuf 9
    (if ltu s.dataLast s.data then mix (s.bufGet 9) s.data s.loopZ else s.bufGet 9 + s.data)).goto Code.m4)

/-- `M4` (R157): `ROTR5 <- rotr32(DATA, DATA_LAST[4:0])`, `BUF[4] += ROTR5`. -/
def execM4 (s : State) : Host.Outcome State Fault Refusal :=
  let r := rotr32 s.data (lo5 s.dataLast)
  .next (({ s with rotr5 := r }.setBuf 4 (s.bufGet 4 + r)).goto Code.m7)

/-- `M7` (R158): `BUF[7] <- Mix(BUF[7], rotl32(DATA, DATA_LAST[4:0]), LOOP)`. -/
def execM7 (s : State) : Host.Outcome State Fault Refusal :=
  .next ((s.setBuf 7 (mix (s.bufGet 7) (rotl32 s.data (lo5 s.dataLast)) s.loopZ)).goto Code.m6)

/-- `M6` (R159): the comparison and the right-hand sides use the old `BUF[6]`. -/
def execM6 (s : State) : Host.Outcome State Fault Refusal :=
  .next ((s.setBuf 6
    (if ltu s.data (s.bufGet 6) then (s.bufGet 3 + s.bufGet 6) ^^^ (s.data + s.loopZ)
     else (s.bufGet 4 + s.data) ^^^ s.bufGet 6)).goto Code.m5)

/-- `M5` (R160): `ROTL2 <- rotl32(DATA, DATA_LAST[31:27])`, `BUF[5] += ROTL2`. -/
def execM5 (s : State) : Host.Outcome State Fault Refusal :=
  let r := rotl32 s.data (hi5 s.dataLast)
  .next (({ s with rotl2 := r }.setBuf 5 (s.bufGet 5 + r)).goto Code.m8)

/-- `M8` (R161): `BUF[8] <- Mix(BUF[8], rotr32(DATA, DATA_LAST[31:27]), LOOP)`. -/
def execM8 (s : State) : Host.Outcome State Fault Refusal :=
  .next ((s.setBuf 8 (mix (s.bufGet 8) (rotr32 s.data (hi5 s.dataLast)) s.loopZ)).goto Code.term)

/-- `TERM` (R162): the loop bound check, after the core block and before the look-ahead read. -/
def execTerm (s : State) : Host.Outcome State Fault Refusal :=
  .next
    (if s.loop = niter then s.goto Code.finit
     else { s.noteRead (termOffset s.loop) with dataNext := s.wordAt (termOffset s.loop) }.goto Code.x15)

end Sys2Proof.Machine
end

