-- ==== Sys2Proof/Machine/MixerExtension.lean ====
section
/-! DEFINITION. The Iterative Mixer's extension block (43_mixer_extension.md): the steps of iterations 1 to 1007. -/

namespace Sys2Proof.Machine

/-- `X15` (R171): `t = Mix(BUF[15], ROTL2, LOOP)`, `BUF[15] <- Mix(t, rotl32(DATA_NEXT, DATA[31:27]), LOOP)`. -/
def execX15 (s : State) : Host.Outcome State Fault Refusal :=
  let t := mix (s.bufGet 15) s.rotl2 s.loopZ
  .next ((s.setBuf 15 (mix t (rotl32 s.dataNext (hi5 s.data)) s.loopZ)).goto Code.x14)

/-- `X14` (R172): `t = Mix(BUF[14], ROTR5, LOOP)`, `BUF[14] <- Mix(t, rotr32(DATA_NEXT, DATA[4:0]), LOOP)`. -/
def execX14 (s : State) : Host.Outcome State Fault Refusal :=
  let t := mix (s.bufGet 14) s.rotr5 s.loopZ
  .next ((s.setBuf 14 (mix t (rotr32 s.dataNext (lo5 s.data)) s.loopZ)).goto Code.x13)

/-- `X13` (R173): each word rotated by its own low five bits. -/
def execX13 (s : State) : Host.Outcome State Fault Refusal :=
  .next ((s.setBuf 13
    (s.bufGet 13 + rotr32 s.data (lo5 s.data) + rotr32 s.dataNext (lo5 s.dataNext))).goto Code.x10)

/-- `X10` (R174): `BUF[10] <- Mix(BUF[10] + DATA, DATA_NEXT, LOOP)`. -/
def execX10 (s : State) : Host.Outcome State Fault Refusal :=
  .next ((s.setBuf 10 (mix (s.bufGet 10 + s.data) s.dataNext s.loopZ)).goto Code.x11)

/-- `X11` (R175): `BUF[11] <- Mix(BUF[11] XOR DATA, DATA_NEXT, LOOP)`. -/
def execX11 (s : State) : Host.Outcome State Fault Refusal :=
  .next ((s.setBuf 11 (mix (s.bufGet 11 ^^^ s.data) s.dataNext s.loopZ)).goto Code.x12)

/-- `X12` (R176): `BUF[12] += BUF[8] XOR DATA`, then the next iteration. -/
def execX12 (s : State) : Host.Outcome State Fault Refusal :=
  .next ((s.setBuf 12 (s.bufGet 12 + (s.bufGet 8 ^^^ s.data))).goto Code.fetch)

end Sys2Proof.Machine
end

