-- ==== Sys2Proof/Machine/Dispatch.lean ====
section
/-! DEFINITION. One arm per instruction, each one call of its meaning. -/

namespace Sys2Proof.Machine

def exec (i : Instr) (s : State) : Host.Outcome State Fault Refusal :=
  match i with
  | .idle => Sys2Proof.Machine.execIdle s
  | .init => Sys2Proof.Machine.execInit s
  | .fetch => Sys2Proof.Machine.execFetch s
  | .m0 => Sys2Proof.Machine.execM0 s
  | .m1 => Sys2Proof.Machine.execM1 s
  | .m2 => Sys2Proof.Machine.execM2 s
  | .m3 => Sys2Proof.Machine.execM3 s
  | .m9 => Sys2Proof.Machine.execM9 s
  | .m4 => Sys2Proof.Machine.execM4 s
  | .m7 => Sys2Proof.Machine.execM7 s
  | .m6 => Sys2Proof.Machine.execM6 s
  | .m5 => Sys2Proof.Machine.execM5 s
  | .m8 => Sys2Proof.Machine.execM8 s
  | .term => Sys2Proof.Machine.execTerm s
  | .x15 => Sys2Proof.Machine.execX15 s
  | .x14 => Sys2Proof.Machine.execX14 s
  | .x13 => Sys2Proof.Machine.execX13 s
  | .x10 => Sys2Proof.Machine.execX10 s
  | .x11 => Sys2Proof.Machine.execX11 s
  | .x12 => Sys2Proof.Machine.execX12 s
  | .finit => Sys2Proof.Machine.execFinit s
  | .f0 => Sys2Proof.Machine.execF0 s
  | .f1 => Sys2Proof.Machine.execF1 s
  | .f2 => Sys2Proof.Machine.execF2 s
  | .f3 => Sys2Proof.Machine.execF3 s
  | .fsum => Sys2Proof.Machine.execFsum s
  | .start wdata => Sys2Proof.Machine.execStart wdata s
  | .nopctrl wdata => Sys2Proof.Machine.execNopctrl wdata s
  | .rdctrl => Sys2Proof.Machine.execRdctrl s
  | .rdstatus => Sys2Proof.Machine.execRdstatus s
  | .wrseed wdata => Sys2Proof.Machine.execWrseed wdata s
  | .rdseed => Sys2Proof.Machine.execRdseed s
  | .wrorder wdata => Sys2Proof.Machine.execWrorder wdata s
  | .rdorder => Sys2Proof.Machine.execRdorder s
  | .rdchkhi => Sys2Proof.Machine.execRdchkhi s
  | .rdchklo => Sys2Proof.Machine.execRdchklo s

end Sys2Proof.Machine
end

