-- ==== Sys2Proof/Machine/Fetch.lean ====
section
/-! DEFINITION. Which agent moves next, and what it brings (log entry 4). -/

namespace Sys2Proof.Machine

/-- What one step of the model works on: an operation to decode, the external reset, or a platform store. -/
inductive Work where
  | op (w : OpWord)
  | reset
  | store (o : Offset) (b : Byte)
  deriving DecidableEq, Repr

/-- The next event of the queue is taken. On the sequencer's turn, and when nothing is waiting, the operation is the
step whose code `STEP` holds (10_state.md R28); a host access is taken as the host gave it (45_host_operations.md
R200). -/
def fetch (s : State) : Work × State :=
  match s.inputs with
  | [] => (.op (.step s.step), s)
  | .tick :: rest => (.op (.step s.step), { s with inputs := rest })
  | .host access :: rest => (.op (.host access), { s with inputs := rest })
  | .reset :: rest => (.reset, { s with inputs := rest })
  | .store o b :: rest => (.store o b, { s with inputs := rest })

/-- `s` arranged so that the next operation fetched is `w`: a step code in `STEP` with the sequencer to move, or
the host access at the head of the queue. -/
def placeOp (w : OpWord) (s : State) : State :=
  match w with
  | .step code => { s with step := code, inputs := if s.inputs.isEmpty then [] else .tick :: s.inputs }
  | .host access => { s with inputs := .host access :: s.inputs }

end Sys2Proof.Machine
end

