-- ==== Sys2Proof/Machine/Step.lean ====
section
/-! DEFINITION. One step of the model: one atomic event, a sequencer step, a host operation or an action of the
platform (00_scope.md R10, 45_host_operations.md R200). -/

namespace Sys2Proof.Machine

/-- Fetch, decode, execute; the three outcomes are a next state, a fault, a refusal. -/
def step (s : State) : Host.Outcome State Fault Refusal :=
  match fetch s with
  | (.op w, s') =>
    match decode w with
    | .ok i => exec i s'
    | .error e => rejected e s'
  | (.reset, s') => .next (hardReset s')
  | (.store o b, s') => platformStore o b s'

/-- `s` with the instruction of a table word placed where `step` fetches its next instruction (log entries 12, 13). -/
def State.withFetchWord (s : State) (nbits w : Nat) : State :=
  match OpWord.ofTable nbits w with
  | none => s
  | some o => placeOp o s

end Sys2Proof.Machine
end

