-- ==== Sys2Proof/Machine/Reference.lean ====
section
/-! DEFINITION. The spec's formulas on natural numbers, written apart from the machine: the statements say that the
machine computes these. The machine uses none of them. -/

namespace Sys2Proof.Machine

/-! ### Arithmetic (40_datapath_primitives.md) -/

/-- `(a + b) mod 2^32` (R121). -/
def Ref.add (a b : Nat) : Nat := (a + b) % 2 ^ 32

/-- `(a - b) mod 2^32`: `a - b` if `a >= b`, else `a - b + 2^32` (R122). -/
def Ref.sub (a b : Nat) : Nat := if b ≤ a then a - b else a + 2 ^ 32 - b

/-- `floor(v / 2^s) + (v mod 2^s) * 2^(32-s)`, the identity at `s = 0` (R125). -/
def Ref.rotr (v s : Nat) : Nat := if s = 0 then v else v / 2 ^ s + v % 2 ^ s * 2 ^ (32 - s)

/-- `(v mod 2^(32-s)) * 2^s + floor(v / 2^(32-s))`, the identity at `s = 0` (R126). -/
def Ref.rotl (v s : Nat) : Nat := if s = 0 then v else v % 2 ^ (32 - s) * 2 ^ s + v / 2 ^ (32 - s)

/-- `Mix(x, y, z)` (R128): `p = x * y'`, `diff = p[63:32] - p[31:0]`. -/
def Ref.mix (x y z : Nat) : Nat :=
  let y' := if y = 0 then z else y
  let p := x * y'
  let diff := Ref.sub (p / 2 ^ 32) (p % 2 ^ 32)
  if diff = 0 then x else diff

/-- `v[hi:lo] = (v / 2^lo) mod 2^(hi-lo+1)` (00_scope.md R13). -/
def Ref.bits (v hi lo : Nat) : Nat := v / 2 ^ lo % 2 ^ (hi - lo + 1)

/-- The word `ORDER` 0, 1 or 2 assembles from four bytes (20_memory.md R64). -/
def Ref.word (order b0 b1 b2 b3 : Nat) : Nat :=
  match order with
  | 0 => b0 * 2 ^ 24 + b1 * 2 ^ 16 + b2 * 2 ^ 8 + b3
  | 1 => b1 * 2 ^ 24 + b0 * 2 ^ 16 + b3 * 2 ^ 8 + b2
  | _ => b3 * 2 ^ 24 + b2 * 2 ^ 16 + b1 * 2 ^ 8 + b0

/-- `init = (0x6c078965 * seed + 1) mod 2^32 XOR W(0)` (41_initializer.md R140). -/
def Ref.init (seed w0 : Nat) : Nat := (0x6C078965 * seed + 1) % 2 ^ 32 ^^^ w0

/-! ### The whole computation (44_finalizer.md R187) -/

/-- What the mixer carries from one iteration to the next: `B[0..15]` and `data`. -/
structure Ref.Mixer where
  b : Vector Nat 16
  data : Nat
  deriving DecidableEq, Repr

/-- The ten updates of every iteration, in order; also the two rotations the extension block uses again. -/
def Ref.core (loop data dataLast : Nat) (b : Vector Nat 16) : Vector Nat 16 × Nat × Nat :=
  let lo := Ref.bits dataLast 4 0
  let hi := Ref.bits dataLast 31 27
  let b := b.set 0 (Ref.add b[0] (Ref.mix (Ref.sub 1007 loop) data loop))
  let b := b.set 1 (Ref.mix b[1] data loop)
  let b := b.set 2 (b[2] ^^^ data)
  let b := b.set 3 (Ref.add b[3] (Ref.mix (Ref.add data 5) 0x6C078965 loop))
  let b := b.set 9 (if dataLast < data then Ref.mix b[9] data loop else Ref.add b[9] data)
  let r5 := Ref.rotr data lo
  let b := b.set 4 (Ref.add b[4] r5)
  let b := b.set 7 (Ref.mix b[7] (Ref.rotl data lo) loop)
  let b := b.set 6 (if data < b[6] then Ref.add b[3] b[6] ^^^ Ref.add data loop else Ref.add b[4] data ^^^ b[6])
  let l2 := Ref.rotl data hi
  let b := b.set 5 (Ref.add b[5] l2)
  let b := b.set 8 (Ref.mix b[8] (Ref.rotr data hi) loop)
  (b, r5, l2)

/-- The six updates of iterations 1 to 1007, in order, with `dn = W(loop)`. -/
def Ref.extension (loop data dn r5 l2 : Nat) (b : Vector Nat 16) : Vector Nat 16 :=
  let b := b.set 15 (Ref.mix (Ref.mix b[15] l2 loop) (Ref.rotl dn (Ref.bits data 31 27)) loop)
  let b := b.set 14 (Ref.mix (Ref.mix b[14] r5 loop) (Ref.rotr dn (Ref.bits data 4 0)) loop)
  let b := b.set 13
    (Ref.add b[13] (Ref.add (Ref.rotr data (Ref.bits data 4 0)) (Ref.rotr dn (Ref.bits dn 4 0))))
  let b := b.set 10 (Ref.mix (Ref.add b[10] data) dn loop)
  let b := b.set 11 (Ref.mix (b[11] ^^^ data) dn loop)
  b.set 12 (Ref.add b[12] (b[8] ^^^ data))

/-- Iteration `loop`, 1 to 1008; the extension block does not run on 1008. -/
def Ref.iteration (w : Nat → Nat) (loop : Nat) (m : Ref.Mixer) : Ref.Mixer :=
  let data := w (loop - 1)
  let (b, r5, l2) := Ref.core loop data m.data m.b
  { b := if loop = 1008 then b else Ref.extension loop data (w loop) r5 l2 b, data := data }

/-- Iterations 1 to `n`. -/
def Ref.iterations (w : Nat → Nat) : Nat → Ref.Mixer → Ref.Mixer
  | 0, m => m
  | n + 1, m => Ref.iteration w (n + 1) (Ref.iterations w n m)

/-- Pass `loop` of the finalizer, 0 to 15, over the word `d = B[loop]`. -/
def Ref.pass (loop d : Nat) (cb : Vector Nat 4) : Vector Nat 4 :=
  let tmp := Ref.add cb[0] (Ref.rotr d (Ref.bits d 4 0))
  let cb := cb.set 0 tmp
  let cb := cb.set 1 (if d < tmp then Ref.add cb[1] d else Ref.mix cb[1] d loop)
  let cb := cb.set 2 (if Ref.bits d 1 1 = Ref.bits d 0 0 then Ref.add cb[2] d else Ref.mix cb[2] d loop)
  cb.set 3 (if Ref.bits d 0 0 = 1 then cb[3] ^^^ d else Ref.mix cb[3] d loop)

/-- Passes 0 to `n - 1`. -/
def Ref.passes (b : Vector Nat 16) : Nat → Vector Nat 4 → Vector Nat 4
  | 0, cb => cb
  | n + 1, cb => Ref.pass n (b[n % 16]'(Nat.mod_lt n (by decide))) (Ref.passes b n cb)

/-- `Checksum48(seed8, W)`: the pair (`CHK_HI`, `CHK_LO`). -/
def Ref.checksum48 (seed8 : Nat) (w : Nat → Nat) : Nat × Nat :=
  let m := Ref.iterations w 1008 { b := Vector.replicate 16 (Ref.init seed8 (w 0)), data := w 0 }
  let cb := Ref.passes m.b 16 (Vector.replicate 4 m.b[0])
  (Ref.mix cb[0] cb[1] 16 % 2 ^ 16, cb[3] ^^^ cb[2])

/-! ### Region reads of one computation (20_memory.md R68) -/

/-- The offsets iterations 1 to `n` read, oldest first: `4*(k-1)` by `FETCH`, then `4*k` by `TERM` unless `k = 1008`. -/
def Ref.iterationReads : Nat → List Nat
  | 0 => []
  | n + 1 => Ref.iterationReads n ++ (if n + 1 = 1008 then [4 * n] else [4 * n, 4 * (n + 1)])

/-- The offsets one computation reads, oldest first: 0 by `INIT`, then those of the 1008 iterations. -/
def Ref.readOffsets : List Nat := 0 :: Ref.iterationReads 1008

/-! ### Control (30_encoding.md R93) -/

/-- The code a step writes to `STEP`, by the step and the value of `LOOP` it finds; none for `IDLE`, which has no
successor, and for host operations. -/
def Ref.successor (i : Instr) (loop : Nat) : Option Instr :=
  match i with
  | .init => some .fetch
  | .fetch => some .m0
  | .m0 => some .m1
  | .m1 => some .m2
  | .m2 => some .m3
  | .m3 => some .m9
  | .m9 => some .m4
  | .m4 => some .m7
  | .m7 => some .m6
  | .m6 => some .m5
  | .m5 => some .m8
  | .m8 => some .term
  | .term => some (if loop = 1008 then .finit else .x15)
  | .x15 => some .x14
  | .x14 => some .x13
  | .x13 => some .x10
  | .x10 => some .x11
  | .x11 => some .x12
  | .x12 => some .fetch
  | .finit => some .f0
  | .f0 => some .f1
  | .f1 => some .f2
  | .f2 => some .f3
  | .f3 => some (if loop = 15 then .fsum else .f0)
  | .fsum => some .idle
  | .idle | .start _ | .nopctrl _ | .rdctrl | .rdstatus | .wrseed _ | .rdseed | .wrorder _ | .rdorder
  | .rdchkhi | .rdchklo => none

/-- Which words of `BUF` a step writes (10_state.md R22). -/
def Ref.writesBuf (i : Instr) (j : Fin 16) : Bool :=
  match i with
  | .init => true
  | .m0 => j == 0
  | .m1 => j == 1
  | .m2 => j == 2
  | .m3 => j == 3
  | .m9 => j == 9
  | .m4 => j == 4
  | .m7 => j == 7
  | .m6 => j == 6
  | .m5 => j == 5
  | .m8 => j == 8
  | .x15 => j == 15
  | .x14 => j == 14
  | .x13 => j == 13
  | .x10 => j == 10
  | .x11 => j == 11
  | .x12 => j == 12
  | .idle | .fetch | .term | .finit | .f0 | .f1 | .f2 | .f3 | .fsum => false
  | .start _ | .nopctrl _ | .rdctrl | .rdstatus | .wrseed _ | .rdseed | .wrorder _ | .rdorder | .rdchkhi
  | .rdchklo => false

end Sys2Proof.Machine
end

