-- ==== Sys2Proof/Safety.lean ====
section
/-! DEFINITION. What a state of a run meets (30_encoding.md R102, 10_state.md R26 R29, 42_mixer_core.md R164,
43_mixer_extension.md R170, 44_finalizer.md R180), in the terms the statements use. -/

namespace Sys2Proof.Machine

/-- `STEP` holds a code of 30_encoding.md R92, not a reserved one (R102). -/
def State.codeLegal (s : State) : Prop := s.step.toNat ≤ 25

/-- `BUSY` and `DONE` are never both 1 (10_state.md R29). -/
def State.flagsApart (s : State) : Prop := s.busy = true → s.done = false

/-- No computation runs without a Word Source (20_memory.md R64, 45_host_operations.md R202). -/
def State.sourceBound (s : State) : Prop := s.busy = true → s.order ≠ 3#2

/-- The region's list has its one canonical form (20_memory.md R60, R61). -/
def State.regionCanonical (s : State) : Prop := Memory.wf s.regionLen s.region

/-- The range of `LOOP` at each step: before an iteration 0 to 1007, in the core block 1 to 1008, in the extension block
1 to 1007 (42_mixer_core.md R164), 1008 on entry to the finalizer, 0 to 15 in it, 15 at the end
(44_finalizer.md R180, R185). -/
structure State.LoopInRange (s : State) : Prop where
  fetch : s.step = Code.fetch → s.loop.toNat ≤ 1007
  core : Code.m0.toNat ≤ s.step.toNat → s.step.toNat ≤ Code.term.toNat → 1 ≤ s.loop.toNat ∧ s.loop.toNat ≤ 1008
  extension : Code.x15.toNat ≤ s.step.toNat → s.step.toNat ≤ Code.x12.toNat →
    1 ≤ s.loop.toNat ∧ s.loop.toNat ≤ 1007
  finit : s.step = Code.finit → s.loop.toNat = 1008
  pass : Code.f0.toNat ≤ s.step.toNat → s.step.toNat ≤ Code.f3.toNat → s.loop.toNat ≤ 15
  fsum : s.step = Code.fsum → s.loop.toNat = 15

/-- What the carried words hold at each step of the mixer: `DATA = W(LOOP-1)`, `DATA_LAST = W(max(LOOP-2, 0))`,
`DATA_NEXT = W(LOOP)` (42_mixer_core.md R164), `ROTR5` and `ROTL2` what `M4` and `M5` computed
(43_mixer_extension.md R170); subtraction is that of natural numbers. In the finalizer `FDATA = BUF[LOOP]` and
`TMP = CB[0]` (10_state.md R26). -/
structure State.CarriedWords (s : State) : Prop where
  fetch : s.step = Code.fetch → s.data = s.wordNo (s.loop.toNat - 1)
  data : Code.m0.toNat ≤ s.step.toNat → s.step.toNat ≤ Code.x12.toNat → s.data = s.wordNo (s.loop.toNat - 1)
  dataLast : Code.m0.toNat ≤ s.step.toNat → s.step.toNat ≤ Code.x12.toNat →
    s.dataLast = s.wordNo (s.loop.toNat - 2)
  dataNext : Code.x15.toNat ≤ s.step.toNat → s.step.toNat ≤ Code.x12.toNat → s.dataNext = s.wordNo s.loop.toNat
  rotr5 : Code.m7.toNat ≤ s.step.toNat → s.step.toNat ≤ Code.x12.toNat →
    s.rotr5.toNat = Ref.rotr s.data.toNat (Ref.bits s.dataLast.toNat 4 0)
  rotl2 : Code.m8.toNat ≤ s.step.toNat → s.step.toNat ≤ Code.x12.toNat →
    s.rotl2.toNat = Ref.rotl s.data.toNat (Ref.bits s.dataLast.toNat 31 27)
  fdata : Code.f1.toNat ≤ s.step.toNat → s.step.toNat ≤ Code.f3.toNat →
    s.fdata = s.bufGet (Fin.ofNat 16 s.loop.toNat)
  tmp : Code.f1.toNat ≤ s.step.toNat → s.step.toNat ≤ Code.f3.toNat → s.tmp = s.cbGet 0

/-- What every state of a run meets. -/
structure State.Inv (s : State) : Prop where
  codeLegal : s.codeLegal
  flagsApart : s.flagsApart
  sourceBound : s.sourceBound
  regionCanonical : s.regionCanonical
  loopInRange : s.LoopInRange
  carriedWords : s.CarriedWords

/-- The block is idle and the host's next action is a `START` that will be accepted, with nothing waiting after it
(45_host_operations.md R201). -/
structure State.AboutToStart (s : State) (wdata : Word) : Prop where
  idle : s.step = Code.idle
  bound : s.order ≠ 3#2
  startBit : wdata.getLsbD 0 = true
  inputs : s.inputs = [.host (.write Reg.ctrl wdata)]

/-- Which steps of the model end the validity of a result: an accepted `START` or the external reset
(10_state.md R31). -/
def State.endsResult (s : State) : Prop :=
  (∃ rest, s.inputs = .reset :: rest) ∨
    (∃ wdata rest, s.inputs = .host (.write Reg.ctrl wdata) :: rest ∧ wdata.getLsbD 0 = true ∧
      s.busy = false ∧ s.order ≠ 3#2)

/-! ### Frames -/

/-- Every byte of the region reads as before. -/
def State.SameRegion (s t : State) : Prop := ∀ o : Offset, t.readByte o = s.readByte o

/-- Between `s` and `t` only `BUF[i]` and `STEP` may differ. -/
structure State.OnlyBuf (i : Fin 16) (s t : State) : Prop where
  others : ∀ j : Fin 16, j ≠ i → t.bufGet j = s.bufGet j
  region : s.SameRegion t
  rest : t = { s with buf := t.buf, step := t.step }

/-- Between `s` and `t` only `CB[i]` and `STEP` may differ. -/
structure State.OnlyCb (i : Fin 4) (s t : State) : Prop where
  others : ∀ j : Fin 4, j ≠ i → t.cbGet j = s.cbGet j
  region : s.SameRegion t
  rest : t = { s with cb := t.cb, step := t.step }

end Sys2Proof.Machine
end

