-- ==== Sys2Proof/Certificates/Slice0/Obligations.lean ====
section
/-! DEFINITION. The statements about the machine, one `def` each: what a rule of the spec says a step, a host
operation or a run does. Values are compared with the formulas on natural numbers of Machine/Reference.lean. -/

open Sys2Proof Sys2Proof.Machine

/-- For all 32-bit x, y, z, Mix(x, y, z) read as a natural number is what rule R128 computes: y is replaced by z if
it is 0, the exact product is split into its high and low 32 bits, their difference is taken modulo 2^32, and x
is returned if it is 0. Formalises R128. -/
def Obligations.MixIsHighMinusLowOfTheProduct : Prop :=
  ∀ x y z : Word, (mix x y z).toNat = Ref.mix x.toNat y.toNat z.toNat

/-- For every 32-bit v and 5-bit s: rotr32 and rotl32 have the values of the division formulas of R125 and R126,
rotating by 0 is the identity, bit i of rotr32(v, s) is bit (i + s) mod 32 of v, and bit i of rotl32(v, s) is
bit (i - s) mod 32 of v. Formalises R125, R126. -/
def Obligations.RotatesMoveEveryBit : Prop :=
  ∀ (v : Word) (s : BitVec 5),
    (rotr32 v s).toNat = Ref.rotr v.toNat s.toNat ∧ (rotl32 v s).toNat = Ref.rotl v.toNat s.toNat ∧
    rotr32 v 0#5 = v ∧ rotl32 v 0#5 = v ∧
    (∀ i, i < 32 → (rotr32 v s).getLsbD i = v.getLsbD ((i + s.toNat) % 32)) ∧
    (∀ i, i < 32 → (rotl32 v s).getLsbD i = v.getLsbD ((i + 32 - s.toNat) % 32))

/-- For all x, y, z, z': Mix(x,0,z) = Mix(x,z,z); for y not 0, Mix(x,y,z) = Mix(x,y,z'); Mix(x,y,z) = 0 exactly when
x = 0; and the two witnesses of R129 that Mix is not commutative. Formalises R129. -/
def Obligations.MixSubstitutesZeroAndIsNotCommutative : Prop :=
  (∀ x z : Word, mix x 0#32 z = mix x z z) ∧
    (∀ x y z z' : Word, y ≠ 0#32 → mix x y z = mix x y z') ∧
    (∀ x y z : Word, mix x y z = 0#32 ↔ x = 0#32) ∧
    mix 641#32 6700417#32 1#32 = 641#32 ∧ mix 6700417#32 641#32 1#32 = 6700417#32 ∧
    mix 0#32 5#32 3#32 = 0#32 ∧ mix 5#32 0#32 3#32 = mix 5#32 3#32 3#32 ∧ mix 5#32 3#32 3#32 = 0xFFFFFFF1#32

/-- For every v: rotating by 0 is the identity; for s in 1..31, rotr32(v,s) is both (v >> s) OR (v << (32-s)) and
rotr32(v,s) OR rotl32(v,32-s), and equals rotl32(v,32-s); rotl32(rotr32(v,s),s) = v; rotr32(v,s) =
rotl32(v,(32-s) mod 32); a rotate keeps the number of 1 bits; rotr32 of 0 is 0 and of all ones is all ones.
Formalises R130. -/
def Obligations.RotatesAreInverseAndKeepTheOnes : Prop :=
  ∀ v : Word,
    rotr32 v 0#5 = v ∧ rotl32 v 0#5 = v ∧
    (∀ s : BitVec 5, s ≠ 0#5 →
      rotr32 v s = (v >>> s.toNat) ||| (v <<< (32 - s.toNat)) ∧
      rotr32 v s = rotr32 v s ||| rotl32 v (BitVec.ofNat 5 (32 - s.toNat)) ∧
      rotr32 v s = rotl32 v (BitVec.ofNat 5 (32 - s.toNat))) ∧
    (∀ s : BitVec 5,
      rotl32 (rotr32 v s) s = v ∧
      rotr32 v s = rotl32 v (BitVec.ofNat 5 ((32 - s.toNat) % 32)) ∧
      (List.range 32).countP (fun i => (rotr32 v s).getLsbD i) = (List.range 32).countP (fun i => v.getLsbD i) ∧
      (List.range 32).countP (fun i => (rotl32 v s).getLsbD i) = (List.range 32).countP (fun i => v.getLsbD i) ∧
      rotr32 0#32 s = 0#32 ∧ rotr32 0xFFFFFFFF#32 s = 0xFFFFFFFF#32)

/-- For every state and every aligned offset o, with ORDER 0, 1 or 2 the word read is the one rule R64 assembles
from the bytes at o to o+3; hence for any four bytes a, b, c, d, a region holding a b c d under ORDER 0, b a d c
under ORDER 1 or d c b a under ORDER 2 gives the word {a, b, c, d}. Formalises R64, R66. -/
def Obligations.WordsAssembleByTheByteOrder : Prop :=
  (∀ (s : State) (o : Offset), o.toNat % 4 = 0 → s.order ≠ 3#2 →
      (s.wordAt o).toNat = Ref.word s.order.toNat (s.readByte o).toNat (s.readByte (BitVec.ofNat 12 (o.toNat + 1))).toNat
        (s.readByte (BitVec.ofNat 12 (o.toNat + 2))).toNat (s.readByte (BitVec.ofNat 12 (o.toNat + 3))).toNat) ∧
    (∀ (s : State) (o : Offset) (a b c d : Byte), o.toNat % 4 = 0 →
      (s.order = 0#2 ∧ s.readByte o = a ∧ s.readByte (o + 1#12) = b ∧ s.readByte (o + 2#12) = c ∧
          s.readByte (o + 3#12) = d ∨
        s.order = 1#2 ∧ s.readByte o = b ∧ s.readByte (o + 1#12) = a ∧ s.readByte (o + 2#12) = d ∧
          s.readByte (o + 3#12) = c ∨
        s.order = 2#2 ∧ s.readByte o = d ∧ s.readByte (o + 1#12) = c ∧ s.readByte (o + 2#12) = b ∧
          s.readByte (o + 3#12) = a) →
      s.wordAt o = a ++ b ++ c ++ d)

/-- With the region's list in canonical form, the next event a platform store of byte b at offset o and no
computation running, the step completes, every offset but o reads as before, o reads b if it is below
REGION_LEN, every offset at or beyond REGION_LEN reads 0, and nothing but the region and the queue changes. The
event form is the model's (log entries 4 and 8). Derived from 20_memory.md R61, 20_memory.md R75. -/
def Obligations.PlatformStoreWritesOneRegionByte : Prop :=
  ∀ (s : State) (o : Offset) (b : Byte) (rest : List Event), s.inputs = .store o b :: rest → s.busy = false →
    s.regionCanonical → ∃ t, step s = .next t ∧
      (∀ a : Offset, t.readByte a = if a.toNat < s.regionLen then (if a = o then b else s.readByte a) else 0#8) ∧
      t = { s with region := t.region, inputs := rest }

/-- With the region's list in canonical form, a computation running and a platform store next: if the offset is
below REGION_LEN and the byte differs from the one there, the step ends in the refusal regionChangedWhileBusy;
otherwise the step completes and nothing but the queue changes. The event form is the model's (log entries 4 and
8). Derived from 20_memory.md R75, 70_reset_and_hazards.md R253. -/
def Obligations.RegionChangeWhileBusyIsRefused : Prop :=
  ∀ (s : State) (o : Offset) (b : Byte) (rest : List Event), s.inputs = .store o b :: rest → s.busy = true →
    s.regionCanonical →
    if o.toNat < s.regionLen ∧ s.readByte o ≠ b then step s = .refused .regionChangedWhileBusy
    else step s = .next { s with inputs := rest }

/-- For every well-formed instruction, of all 36, with every datum: decode(encode i) = i. For every operation word w
that decodes to i: i is well formed and encode i = w, so no two words decode to one instruction and no bit of a
word is dropped. Derived from 30_encoding.md R92, 30_encoding.md R97. -/
def Obligations.DecodeAndEncodeAgree : Prop :=
  (∀ i : Instr, i.wf = true → decode (encode i) = .ok i) ∧
    (∀ (w : OpWord) (i : Instr), decode w = .ok i → i.wf = true ∧ encode i = w)

/-- The codes 00001, 01010, 10011 and 11001 decode to INIT, M6, X12 and FSUM; the host words W 0 FFFFFFFF, W 0
80000002, W 2 0000013F, W 3 00000006, R 1, R 5 decode to START, NOPCTRL, WRSEED, WRORDER, RDSTATUS, RDCHKLO; W 1
00000002, W 7 00000001 and R 6 name no operation; 11010 is reserved. Derived from 30_encoding.md R92,
30_encoding.md R97, 30_encoding.md R102, 45_host_operations.md R213. -/
def Obligations.TableWordsDecodeToTheirRows : Prop :=
  decode (.step 0b00001#5) = .ok .init ∧ decode (.step 0b01010#5) = .ok .m6 ∧
    decode (.step 0b10011#5) = .ok .x12 ∧ decode (.step 0b11001#5) = .ok .fsum ∧
    decode (.host (.write 0 0xFFFFFFFF#32)) = .ok (.start 0xFFFFFFFF#32) ∧
    decode (.host (.write 0 0x80000002#32)) = .ok (.nopctrl 0x80000002#32) ∧
    decode (.host (.write 2 0x0000013F#32)) = .ok (.wrseed 0x0000013F#32) ∧
    decode (.host (.write 3 0x00000006#32)) = .ok (.wrorder 0x00000006#32) ∧
    decode (.host (.read 1)) = .ok .rdstatus ∧ decode (.host (.read 5)) = .ok .rdchklo ∧
    decode (.host (.write 1 0x00000002#32)) = .error (.noHostOperation (.write 1 0x00000002#32)) ∧
    decode (.host (.write 7 0x00000001#32)) = .error (.noHostOperation (.write 7 0x00000001#32)) ∧
    decode (.host (.read 6)) = .error (.noHostOperation (.read 6)) ∧
    decode (.step 0b11010#5) = .error (.reservedStepCode 0b11010#5)

/-- If STEP holds a code above 25 and the sequencer is to move, step faults with that code; and whenever step
faults, STEP holds a code above 25 and the sequencer was to move. Derived from 30_encoding.md R102,
93_implementation_defined.md U7. -/
def Obligations.ReservedStepCodesFault : Prop :=
  (∀ s : State, 25 < s.step.toNat → (s.inputs = [] ∨ ∃ rest, s.inputs = .tick :: rest) →
      step s = .fault (.reservedStepCode s.step)) ∧
    (∀ (s : State) (f : Fault), step s = .fault f →
      25 < s.step.toNat ∧ f = .reservedStepCode s.step ∧ (s.inputs = [] ∨ ∃ rest, s.inputs = .tick :: rest))

/-- If nothing waits, step runs exec of the instruction whose code STEP holds, on the state itself; if the next
event is the sequencer's turn, the same on the state with that event removed; if it is a host access that
decodes to i, step is exec of i on the state with that event removed. The queue is the model's (log entry 4).
Derived from 10_state.md R28, 45_host_operations.md R200. -/
def Obligations.StepRunsTheDecodedInstruction : Prop :=
  ∀ (s : State) (i : Instr),
    (s.inputs = [] → decode (.step s.step) = .ok i → step s = exec i s) ∧
    (∀ rest, s.inputs = .tick :: rest → decode (.step s.step) = .ok i → step s = exec i { s with inputs := rest }) ∧
    (∀ access rest, s.inputs = .host access :: rest → decode (.host access) = .ok i →
      step s = exec i { s with inputs := rest })

/-- When the next event is a host write of register 1, 4, 5 or a number above 5, step completes and changes nothing
but the queue; when it is a read of a number above 5, step completes, the datum returned is 0 and nothing else
changes. Formalises R213. -/
def Obligations.AccessesOutsideTheTableDoNothing : Prop :=
  ∀ (s : State) (reg : Nat) (wdata : Word) (rest : List Event),
    (s.inputs = .host (.write reg wdata) :: rest → (reg = 1 ∨ reg = 4 ∨ reg = 5 ∨ 5 < reg) →
      step s = .next { s with inputs := rest }) ∧
    (s.inputs = .host (.read reg) :: rest → 5 < reg →
      step s = .next { s with inputs := rest, replies := 0#32 :: s.replies })

/-- In State.reset, and after a step that takes the external reset in any state, STEP = 0, BUSY = 0, DONE = 0, SEED
= 0x00, ORDER = 0 and the done output is 0; the event leaves the region, REGION_LEN, the waiting events, the
replies and the observed reads as they were. Nothing is said of the registers that hold no value. The values are
those of R51; that the event leaves region, REGION_LEN and waiting events is the model's reading (log entry 14,
DEDUCED), that it leaves replies and reads the model's choice (log entry 5, DESIGN CHOICE). Derived from
10_state.md R51, 70_reset_and_hazards.md R250. -/
def Obligations.ResetAssignsTheStatedValues : Prop :=
  (State.reset.step = 0#5 ∧ State.reset.busy = false ∧ State.reset.done = false ∧ State.reset.seed = 0x00#8 ∧
      State.reset.order = 0#2 ∧ State.reset.doneWire = false) ∧
    (∀ (s : State) (rest : List Event), s.inputs = .reset :: rest →
      ∃ t, step s = .next t ∧ t.step = 0#5 ∧ t.busy = false ∧ t.done = false ∧ t.seed = 0x00#8 ∧ t.order = 0#2 ∧
        t.doneWire = false ∧ s.SameRegion t ∧ t.region = s.region ∧ t.regionLen = s.regionLen ∧ t.inputs = rest ∧
        t.replies = s.replies ∧ t.reads = s.reads)

/-- State.reset meets State.Inv: legal step code, BUSY and DONE not both 1, a Word Source bound while busy, the
region's list canonical, LOOP in the range of its step, the carried words as the step has them. Derived from
10_state.md R51, 30_encoding.md R102, 42_mixer_core.md R164. -/
def Obligations.ResetMeetsTheRunInvariant : Prop :=
  State.reset.Inv

/-- For every state s with State.Inv s, whatever events wait, if step s answers next t then State.Inv t: STEP is no
reserved code (R102), BUSY and DONE are not both 1 (R29), ORDER is not 3 while busy (R202), the region's list is
canonical, LOOP is in the range of its step and DATA, DATA_LAST, DATA_NEXT, ROTR5, ROTL2, FDATA, TMP hold what
R164, R170 and R26 say. Derived from 10_state.md R26, 10_state.md R29, 30_encoding.md R102, 42_mixer_core.md
R164, 43_mixer_extension.md R170, 45_host_operations.md R202. -/
def Obligations.EveryStepKeepsTheRunInvariant : Prop :=
  ∀ s t : State, s.Inv → step s = .next t → t.Inv

/-- If a computation is running and the next event is not the external reset, a step that completes leaves SEED,
ORDER and every byte of the region as they were; over all instructions and all other events. Derived from
20_memory.md R65, 10_state.md R43, 10_state.md R44, 20_memory.md R75. -/
def Obligations.SeedAndOrderAreFixedWhileBusy : Prop :=
  ∀ s t : State, s.busy = true → (∀ rest, s.inputs ≠ .reset :: rest) → step s = .next t →
    t.seed = s.seed ∧ t.order = s.order ∧ t.regionLen = s.regionLen ∧ s.SameRegion t

/-- From a state of a run: if DONE = 1 and the next event is neither an accepted START nor the external reset, a
step that completes leaves DONE, CHK_HI and CHK_LO as they were; and from any state, if a step turns DONE from 0
to 1 then STEP held FSUM and the sequencer moved. Derived from 10_state.md R29, 10_state.md R30, 10_state.md
R31. -/
def Obligations.ResultHoldsUntilStartOrReset : Prop :=
  (∀ s t : State, s.Inv → s.done = true → ¬ s.endsResult → step s = .next t →
      t.done = true ∧ t.chkHi = s.chkHi ∧ t.chkLo = s.chkLo) ∧
    (∀ s t : State, step s = .next t → s.done = false → t.done = true →
      s.step = Code.fsum ∧ (s.inputs = [] ∨ ∃ rest, s.inputs = .tick :: rest))

/-- From any idle state with ORDER 0, 1 or 2 whose next and only event is a START: after that step and 18205 more,
STEP is IDLE, DONE is 1 and (CHK_HI, CHK_LO) = Checksum48(SEED, k -> W(k)) of rule R187, evaluated on natural
numbers; SEED, ORDER and every byte of the region are as before. Formalises R187. -/
def Obligations.ComputationIsChecksum48 : Prop :=
  ∀ (s : State) (wdata : Word), s.AboutToStart wdata →
    ∃ t, Sys2Proof.core.run 18206 s = .next t ∧ t.step = Code.idle ∧ t.done = true ∧
      (t.chkHi.toNat, t.chkLo.toNat) = Ref.checksum48 s.seed.toNat (fun k => (s.wordNo k).toNat) ∧
      t.seed = s.seed ∧ t.order = s.order ∧ s.SameRegion t

/-- From any idle state with ORDER 0, 1 or 2 whose next and only event is a START: for every n up to 18205, that
step and n more complete, and STEP is IDLE exactly when n is 18205. Formalises R188. -/
def Obligations.ComputationTakes18205Steps : Prop :=
  ∀ (s : State) (wdata : Word), s.AboutToStart wdata → ∀ n, n ≤ 18205 →
    ∃ t, Sys2Proof.core.run (n + 1) s = .next t ∧ (t.step = Code.idle ↔ n = 18205)

/-- From any idle state with ORDER 0, 1 or 2 whose next and only event is a START: after that step and 18205 more
the region reads issued since are, in order, those of R68; they are 2016, each offset 4*j for j up to 1007
occurs exactly twice, and no other offset occurs. Formalises R68. -/
def Obligations.ComputationReadsEveryWordTwiceInOrder : Prop :=
  (∀ (s : State) (wdata : Word), s.AboutToStart wdata →
      ∃ t, Sys2Proof.core.run 18206 s = .next t ∧
        t.reads.map BitVec.toNat = Ref.readOffsets.reverse ++ s.reads.map BitVec.toNat) ∧
    Ref.readOffsets.length = 2016 ∧
    (∀ j, j ≤ 1007 → Ref.readOffsets.count (4 * j) = 2) ∧
    (∀ o ∈ Ref.readOffsets, ∃ j, j ≤ 1007 ∧ o = 4 * j)

/-- For each of the 36 instructions, every datum and every state, exec answers a next state: no step and no host
operation can fault, trap or abort. Formalises R230. -/
def Obligations.NoInstructionFaults : Prop :=
  ∀ (i : Instr) (s : State), ∃ t, exec i s = .next t

/-- For every step with a successor in R93 and every state, exec completes and STEP holds the successor's code, TERM
and F3 choosing by LOOP alone; IDLE completes and changes nothing; START, with any datum, writes INIT when STEP
is IDLE and ORDER is not 3. The successors are those of R93; that a turn in IDLE completes is the model's
reading (log entry 16, DEDUCED), that the term start acts so also on a datum with bit 0 clear is the model's
choice (log entry 17, DESIGN CHOICE), and so is that the steps that read the region complete under ORDER 3 (log
entry 10, DESIGN CHOICE) and beyond the window (log entry 11, DEDUCED). Derived from 30_encoding.md R93,
45_host_operations.md R201, 45_host_operations.md R210. -/
def Obligations.SuccessorsFollowTheTable : Prop :=
  (∀ (i j : Instr) (s : State), Ref.successor i s.loop.toNat = some j →
      ∃ t, exec i s = .next t ∧ encode j = .step t.step) ∧
    (∀ s : State, exec .idle s = .next s) ∧
    (∀ (s : State) (wdata : Word), s.step = Code.idle → s.order ≠ 3#2 →
      ∃ t, exec (.start wdata) s = .next t ∧ encode .init = .step t.step)

/-- For every instruction, state and word j of BUF: if the table of R22 gives the instruction no write of BUF[j],
exec leaves BUF[j] unchanged; so the core block never touches BUF[10] to BUF[15] and the finalizer no word at
all. Derived from 10_state.md R22, 42_mixer_core.md R165. -/
def Obligations.StepsWriteOnlyTheirBufWords : Prop :=
  ∀ (i : Instr) (s : State) (j : Fin 16), Ref.writesBuf i j = false →
    ∃ t, exec i s = .next t ∧ t.bufGet j = s.bufGet j

/-- For every instruction and state, exec leaves the region, REGION_LEN and every region byte unchanged, and the
observed reads change only if the instruction is INIT, FETCH or TERM. Derived from 10_state.md R48, 20_memory.md
R60, 20_memory.md R72. -/
def Obligations.OnlyThreeStepsReadTheRegionAndNoneWritesIt : Prop :=
  ∀ (i : Instr) (s : State), ∃ t, exec i s = .next t ∧ t.region = s.region ∧ t.regionLen = s.regionLen ∧
    s.SameRegion t ∧ (i ≠ .init → i ≠ .fetch → i ≠ .term → t.reads = s.reads)

/-- For every host operation and every state with BUSY = 1, exec completes and nothing changes but the reply of a
read (and the count of unspecified values drawn): WRSEED, WRORDER and START are dropped. Derived from
45_host_operations.md R200, 45_host_operations.md R202, 45_host_operations.md R206, 45_host_operations.md R208,
70_reset_and_hazards.md R255. -/
def Obligations.HostOperationsDoNotDisturbAComputation : Prop :=
  ∀ (i : Instr) (access : HostAccess) (s : State), encode i = .host access → s.busy = true →
    ∃ t, exec i s = .next t ∧ t = { s with replies := t.replies, draws := t.draws } ∧
      (∀ reg wdata, access = .write reg wdata → t = s)

/-- With a Word Source bound, INIT completes: every BUF word is ((0x6C078965*SEED + 1) mod 2^32) XOR W(0), DATA =
W(0), LOOP = 0, STEP = FETCH, one read at offset 0 is issued, and nothing else changes. Formalises R140. -/
def Obligations.InitFillsBufFromSeedAndFirstWord : Prop :=
  ∀ s : State, s.order ≠ 3#2 → ∃ t, exec .init s = .next t ∧
    (∀ j : Fin 16, (t.bufGet j).toNat = Ref.init s.seed.toNat (s.wordNo 0).toNat) ∧
    t.data = s.wordNo 0 ∧ t.loop = 0#11 ∧ t.step = Code.fetch ∧ t.reads = 0#12 :: s.reads ∧ s.SameRegion t ∧
    t = { s with buf := t.buf, data := t.data, loop := t.loop, step := t.step, reads := t.reads }

/-- With a Word Source bound and the offset 4*LOOP inside the window, FETCH completes: LOOP grows by 1, DATA_LAST =
old DATA, DATA = the word at offset 4*(new LOOP - 1), STEP = M0, one read at that offset is issued, and nothing
else changes. Formalises R151. -/
def Obligations.FetchAdvancesLoopAndDataWords : Prop :=
  ∀ s : State, s.order ≠ 3#2 → s.loop.toNat ≤ 1023 → ∃ t, exec .fetch s = .next t ∧
    t.loop.toNat = s.loop.toNat + 1 ∧ t.dataLast = s.data ∧ t.data = s.wordNo (t.loop.toNat - 1) ∧
    t.step = Code.m0 ∧ t.reads = BitVec.ofNat 12 (4 * (t.loop.toNat - 1)) :: s.reads ∧ s.SameRegion t ∧
    t = { s with loop := t.loop, dataLast := t.dataLast, data := t.data, step := t.step, reads := t.reads }

/-- In every state M0 completes: BUF[0] grows by Mix((1007 - LOOP) mod 2^32, DATA, LOOP) modulo 2^32; STEP becomes
M1 and nothing else changes. Formalises R152. -/
def Obligations.M0AddsMixToBuf0 : Prop :=
  ∀ s : State, ∃ t, exec .m0 s = .next t ∧
    (t.bufGet 0).toNat = Ref.add (s.bufGet 0).toNat (Ref.mix (Ref.sub 1007 s.loop.toNat) s.data.toNat s.loop.toNat) ∧
    t.step = Code.m1 ∧ s.OnlyBuf 0 t

/-- In every state M1 completes: BUF[1] becomes Mix(BUF[1], DATA, LOOP); STEP becomes M2 and nothing else changes.
Formalises R153. -/
def Obligations.M1MixesBuf1 : Prop :=
  ∀ s : State, ∃ t, exec .m1 s = .next t ∧
    (t.bufGet 1).toNat = Ref.mix (s.bufGet 1).toNat s.data.toNat s.loop.toNat ∧
    t.step = Code.m2 ∧ s.OnlyBuf 1 t

/-- In every state M2 completes: BUF[2] becomes BUF[2] XOR DATA; STEP becomes M3 and nothing else changes.
Formalises R154. -/
def Obligations.M2XorsDataIntoBuf2 : Prop :=
  ∀ s : State, ∃ t, exec .m2 s = .next t ∧
    (t.bufGet 2).toNat = (s.bufGet 2).toNat ^^^ s.data.toNat ∧
    t.step = Code.m3 ∧ s.OnlyBuf 2 t

/-- In every state M3 completes: BUF[3] grows by Mix((DATA + 5) mod 2^32, 0x6C078965, LOOP) modulo 2^32; STEP
becomes M9 and nothing else changes. Formalises R155. -/
def Obligations.M3AddsMixToBuf3 : Prop :=
  ∀ s : State, ∃ t, exec .m3 s = .next t ∧
    (t.bufGet 3).toNat = Ref.add (s.bufGet 3).toNat (Ref.mix (Ref.add s.data.toNat 5) 0x6C078965 s.loop.toNat) ∧
    t.step = Code.m9 ∧ s.OnlyBuf 3 t

/-- In every state M9 completes: BUF[9] becomes Mix(BUF[9], DATA, LOOP) if DATA_LAST < DATA as unsigned numbers,
else BUF[9] + DATA modulo 2^32; STEP becomes M4 and nothing else changes. Formalises R156. -/
def Obligations.M9MixesOrAddsByDataOrder : Prop :=
  ∀ s : State, ∃ t, exec .m9 s = .next t ∧
    (t.bufGet 9).toNat = (if s.dataLast.toNat < s.data.toNat then Ref.mix (s.bufGet 9).toNat s.data.toNat s.loop.toNat else Ref.add (s.bufGet 9).toNat s.data.toNat) ∧
    t.step = Code.m4 ∧ s.OnlyBuf 9 t

/-- In every state M4 completes: ROTR5 becomes rotr32(DATA, DATA_LAST[4:0]), BUF[4] grows by it modulo 2^32, STEP
becomes M7 and nothing else changes. Formalises R157. -/
def Obligations.M4RotatesIntoRotr5AndAddsToBuf4 : Prop :=
  ∀ s : State, ∃ t, exec .m4 s = .next t ∧
    t.rotr5.toNat = Ref.rotr s.data.toNat (Ref.bits s.dataLast.toNat 4 0) ∧
    (t.bufGet 4).toNat = Ref.add (s.bufGet 4).toNat t.rotr5.toNat ∧
    (∀ j : Fin 16, j ≠ 4 → t.bufGet j = s.bufGet j) ∧ t.step = Code.m7 ∧ s.SameRegion t ∧
    t = { s with buf := t.buf, rotr5 := t.rotr5, step := t.step }

/-- In every state M7 completes: BUF[7] becomes Mix(BUF[7], rotl32(DATA, DATA_LAST[4:0]), LOOP); STEP becomes M6 and
nothing else changes. Formalises R158. -/
def Obligations.M7MixesLeftRotationIntoBuf7 : Prop :=
  ∀ s : State, ∃ t, exec .m7 s = .next t ∧
    (t.bufGet 7).toNat = Ref.mix (s.bufGet 7).toNat (Ref.rotl s.data.toNat (Ref.bits s.dataLast.toNat 4 0)) s.loop.toNat ∧
    t.step = Code.m6 ∧ s.OnlyBuf 7 t

/-- In every state M6 completes: BUF[6] becomes (BUF[3] + BUF[6]) XOR (DATA + LOOP) if DATA < BUF[6] as unsigned
numbers, else (BUF[4] + DATA) XOR BUF[6], sums modulo 2^32; STEP becomes M5 and nothing else changes. Formalises
R159. -/
def Obligations.M6XorsBySizeOfData : Prop :=
  ∀ s : State, ∃ t, exec .m6 s = .next t ∧
    (t.bufGet 6).toNat = (if s.data.toNat < (s.bufGet 6).toNat then Ref.add (s.bufGet 3).toNat (s.bufGet 6).toNat ^^^ Ref.add s.data.toNat s.loop.toNat
      else Ref.add (s.bufGet 4).toNat s.data.toNat ^^^ (s.bufGet 6).toNat) ∧
    t.step = Code.m5 ∧ s.OnlyBuf 6 t

/-- In every state M5 completes: ROTL2 becomes rotl32(DATA, DATA_LAST[31:27]), BUF[5] grows by it modulo 2^32, STEP
becomes M8 and nothing else changes. Formalises R160. -/
def Obligations.M5RotatesIntoRotl2AndAddsToBuf5 : Prop :=
  ∀ s : State, ∃ t, exec .m5 s = .next t ∧
    t.rotl2.toNat = Ref.rotl s.data.toNat (Ref.bits s.dataLast.toNat 31 27) ∧
    (t.bufGet 5).toNat = Ref.add (s.bufGet 5).toNat t.rotl2.toNat ∧
    (∀ j : Fin 16, j ≠ 5 → t.bufGet j = s.bufGet j) ∧ t.step = Code.m8 ∧ s.SameRegion t ∧
    t = { s with buf := t.buf, rotl2 := t.rotl2, step := t.step }

/-- In every state M8 completes: BUF[8] becomes Mix(BUF[8], rotr32(DATA, DATA_LAST[31:27]), LOOP); STEP becomes TERM
and nothing else changes. Formalises R161. -/
def Obligations.M8MixesRightRotationIntoBuf8 : Prop :=
  ∀ s : State, ∃ t, exec .m8 s = .next t ∧
    (t.bufGet 8).toNat = Ref.mix (s.bufGet 8).toNat (Ref.rotr s.data.toNat (Ref.bits s.dataLast.toNat 31 27)) s.loop.toNat ∧
    t.step = Code.term ∧ s.OnlyBuf 8 t

/-- At LOOP = 1008 TERM completes, changes nothing but STEP, which becomes FINIT, and issues no read; at any other
LOOP whose offset 4*LOOP is inside the window, with a Word Source bound, DATA_NEXT = W(LOOP), one read at 4*LOOP
is issued, STEP becomes X15 and nothing else changes. Formalises R162. -/
def Obligations.TermStopsAt1008OrReadsAhead : Prop :=
  ∀ s : State,
    (s.loop.toNat = 1008 → exec .term s = .next { s with step := Code.finit }) ∧
    (s.loop.toNat ≠ 1008 → s.loop.toNat ≤ 1023 → s.order ≠ 3#2 → ∃ t, exec .term s = .next t ∧
      t.dataNext = s.wordNo s.loop.toNat ∧ t.step = Code.x15 ∧
      t.reads = BitVec.ofNat 12 (4 * s.loop.toNat) :: s.reads ∧ s.SameRegion t ∧
      t = { s with dataNext := t.dataNext, step := t.step, reads := t.reads })

/-- In every state X15 completes: BUF[15] becomes Mix(Mix(BUF[15], ROTL2, LOOP), rotl32(DATA_NEXT, DATA[31:27]),
LOOP); STEP becomes X14 and nothing else changes. Formalises R171. -/
def Obligations.X15MixesTwiceIntoBuf15 : Prop :=
  ∀ s : State, ∃ t, exec .x15 s = .next t ∧
    (t.bufGet 15).toNat = Ref.mix (Ref.mix (s.bufGet 15).toNat s.rotl2.toNat s.loop.toNat) (Ref.rotl s.dataNext.toNat (Ref.bits s.data.toNat 31 27)) s.loop.toNat ∧
    t.step = Code.x14 ∧ s.OnlyBuf 15 t

/-- In every state X14 completes: BUF[14] becomes Mix(Mix(BUF[14], ROTR5, LOOP), rotr32(DATA_NEXT, DATA[4:0]),
LOOP); STEP becomes X13 and nothing else changes. Formalises R172. -/
def Obligations.X14MixesTwiceIntoBuf14 : Prop :=
  ∀ s : State, ∃ t, exec .x14 s = .next t ∧
    (t.bufGet 14).toNat = Ref.mix (Ref.mix (s.bufGet 14).toNat s.rotr5.toNat s.loop.toNat) (Ref.rotr s.dataNext.toNat (Ref.bits s.data.toNat 4 0)) s.loop.toNat ∧
    t.step = Code.x13 ∧ s.OnlyBuf 14 t

/-- In every state X13 completes: BUF[13] grows by rotr32(DATA, DATA[4:0]) + rotr32(DATA_NEXT, DATA_NEXT[4:0])
modulo 2^32; STEP becomes X10 and nothing else changes. Formalises R173. -/
def Obligations.X13AddsSelfRotationsToBuf13 : Prop :=
  ∀ s : State, ∃ t, exec .x13 s = .next t ∧
    (t.bufGet 13).toNat = Ref.add (s.bufGet 13).toNat (Ref.add (Ref.rotr s.data.toNat (Ref.bits s.data.toNat 4 0)) (Ref.rotr s.dataNext.toNat (Ref.bits s.dataNext.toNat 4 0))) ∧
    t.step = Code.x10 ∧ s.OnlyBuf 13 t

/-- In every state X10 completes: BUF[10] becomes Mix((BUF[10] + DATA) mod 2^32, DATA_NEXT, LOOP); STEP becomes X11
and nothing else changes. Formalises R174. -/
def Obligations.X10MixesSumIntoBuf10 : Prop :=
  ∀ s : State, ∃ t, exec .x10 s = .next t ∧
    (t.bufGet 10).toNat = Ref.mix (Ref.add (s.bufGet 10).toNat s.data.toNat) s.dataNext.toNat s.loop.toNat ∧
    t.step = Code.x11 ∧ s.OnlyBuf 10 t

/-- In every state X11 completes: BUF[11] becomes Mix(BUF[11] XOR DATA, DATA_NEXT, LOOP); STEP becomes X12 and
nothing else changes. Formalises R175. -/
def Obligations.X11MixesXorIntoBuf11 : Prop :=
  ∀ s : State, ∃ t, exec .x11 s = .next t ∧
    (t.bufGet 11).toNat = Ref.mix ((s.bufGet 11).toNat ^^^ s.data.toNat) s.dataNext.toNat s.loop.toNat ∧
    t.step = Code.x12 ∧ s.OnlyBuf 11 t

/-- In every state X12 completes: BUF[12] grows by BUF[8] XOR DATA modulo 2^32; STEP becomes FETCH and nothing else
changes. Formalises R176. -/
def Obligations.X12AddsXorToBuf12 : Prop :=
  ∀ s : State, ∃ t, exec .x12 s = .next t ∧
    (t.bufGet 12).toNat = Ref.add (s.bufGet 12).toNat ((s.bufGet 8).toNat ^^^ s.data.toNat) ∧
    t.step = Code.fetch ∧ s.OnlyBuf 12 t

/-- In every state FINIT completes: CB[0..3] = BUF[0], LOOP = 0, STEP = F0 and nothing else changes. Formalises
R181. -/
def Obligations.FinitLoadsCbFromBuf0 : Prop :=
  ∀ s : State, ∃ t, exec .finit s = .next t ∧ (∀ j : Fin 4, t.cbGet j = s.bufGet 0) ∧ t.loop = 0#11 ∧
    t.step = Code.f0 ∧ s.SameRegion t ∧ t = { s with cb := t.cb, loop := t.loop, step := t.step }

/-- In every state F0 completes: FDATA = BUF[LOOP mod 16], TMP = CB[0] + rotr32(FDATA, FDATA[4:0]) modulo 2^32,
CB[0] = TMP, STEP = F1 and nothing else changes. Formalises R182. -/
def Obligations.F0AddsSelfRotationToCb0 : Prop :=
  ∀ s : State, ∃ t, exec .f0 s = .next t ∧ t.fdata = s.bufGet (Fin.ofNat 16 (Ref.bits s.loop.toNat 3 0)) ∧
    t.tmp.toNat = Ref.add (s.cbGet 0).toNat (Ref.rotr t.fdata.toNat (Ref.bits t.fdata.toNat 4 0)) ∧
    t.cbGet 0 = t.tmp ∧ (∀ j : Fin 4, j ≠ 0 → t.cbGet j = s.cbGet j) ∧ t.step = Code.f1 ∧ s.SameRegion t ∧
    t = { s with cb := t.cb, fdata := t.fdata, tmp := t.tmp, step := t.step }

/-- In every state F1 completes: CB[1] becomes CB[1] + FDATA modulo 2^32 if FDATA < TMP as unsigned numbers, else
Mix(CB[1], FDATA, LOOP); STEP becomes F2 and nothing else changes. Formalises R183. -/
def Obligations.F1AddsOrMixesByTmp : Prop :=
  ∀ s : State, ∃ t, exec .f1 s = .next t ∧
    (t.cbGet 1).toNat = (if s.fdata.toNat < s.tmp.toNat then Ref.add (s.cbGet 1).toNat s.fdata.toNat else Ref.mix (s.cbGet 1).toNat s.fdata.toNat s.loop.toNat) ∧
    t.step = Code.f2 ∧ s.OnlyCb 1 t

/-- In every state F2 completes: CB[2] becomes CB[2] + FDATA modulo 2^32 if FDATA[1] = FDATA[0], else Mix(CB[2],
FDATA, LOOP); STEP becomes F3 and nothing else changes. Formalises R184. -/
def Obligations.F2AddsOrMixesByLowBits : Prop :=
  ∀ s : State, ∃ t, exec .f2 s = .next t ∧
    (t.cbGet 2).toNat = (if Ref.bits s.fdata.toNat 1 1 = Ref.bits s.fdata.toNat 0 0 then Ref.add (s.cbGet 2).toNat s.fdata.toNat else Ref.mix (s.cbGet 2).toNat s.fdata.toNat s.loop.toNat) ∧
    t.step = Code.f3 ∧ s.OnlyCb 2 t

/-- In every state F3 completes: CB[3] becomes CB[3] XOR FDATA if FDATA[0] = 1, else Mix(CB[3], FDATA, old LOOP); if
LOOP is 15 it stays 15 and STEP = FSUM, else LOOP becomes LOOP + 1 in 11 bits and STEP = F0; nothing else
changes. The rule is R185; that LOOP + 1 is taken in 11 bits, 2047 going to 0, is the model's reading for a
state no run reaches (log entry 11, DEDUCED). Derived from 44_finalizer.md R185, 10_state.md R27. -/
def Obligations.F3XorsOrMixesAndCountsThePass : Prop :=
  ∀ s : State, ∃ t, exec .f3 s = .next t ∧
    (t.cbGet 3).toNat = (if Ref.bits s.fdata.toNat 0 0 = 1 then (s.cbGet 3).toNat ^^^ s.fdata.toNat else Ref.mix (s.cbGet 3).toNat s.fdata.toNat s.loop.toNat) ∧
    (∀ j : Fin 4, j ≠ 3 → t.cbGet j = s.cbGet j) ∧
    (if s.loop.toNat = 15 then t.loop = s.loop ∧ t.step = Code.fsum
     else t.loop = s.loop + 1#11 ∧ t.step = Code.f0) ∧
    s.SameRegion t ∧ t = { s with cb := t.cb, loop := t.loop, step := t.step }

/-- In every state FSUM completes: CHK_HI = Mix(CB[0], CB[1], 16) modulo 2^16, CHK_LO = CB[3] XOR CB[2], so that
CHK_HI*2^32 + CHK_LO is (sum*2^32 OR tmp) modulo 2^48; DONE = 1, the done output is 1, STEP = IDLE, BUSY = 0,
and nothing else changes. Formalises R186. -/
def Obligations.FsumExtractsTheChecksumAndSetsDone : Prop :=
  ∀ s : State, ∃ t, exec .fsum s = .next t ∧
    t.chkHi.toNat = Ref.mix (s.cbGet 0).toNat (s.cbGet 1).toNat 16 % 2 ^ 16 ∧ t.chkLo.toNat = (s.cbGet 3).toNat ^^^ (s.cbGet 2).toNat ∧
    t.chkHi.toNat * 2 ^ 32 + t.chkLo.toNat =
      ((Ref.mix (s.cbGet 0).toNat (s.cbGet 1).toNat 16 * 2 ^ 32) ||| ((s.cbGet 3).toNat ^^^ (s.cbGet 2).toNat)) % 2 ^ 48 ∧
    t.done = true ∧ t.doneWire = true ∧ t.step = Code.idle ∧ t.busy = false ∧ s.SameRegion t ∧
    t = { s with chkHi := t.chkHi, chkLo := t.chkLo, done := t.done, step := t.step }

/-- In every state, whatever ORDER and LOOP: INIT, FETCH and (at LOOP other than 1008) TERM complete with the word
MemRead gives at offset 0, 4*LOOP modulo 4096, 4*LOOP modulo 4096; under ORDER 3 that word is the next
unspecified value, and one is drawn. The model's choice (log entries 10 and 11) for states the spec says no run
reaches. Derived from 20_memory.md R60, 20_memory.md R64. -/
def Obligations.WordReadsOutsideARunComplete : Prop :=
  ∀ s : State,
    (∃ t, exec .init s = .next t ∧ t.data = s.wordNo 0 ∧ t.step = Code.fetch ∧
      t.draws = (if s.order = 3#2 then s.draws + 1 else s.draws)) ∧
    (∃ t, exec .fetch s = .next t ∧ t.data = s.wordNo s.loop.toNat ∧ t.dataLast = s.data ∧ t.loop = s.loop + 1#11 ∧
      t.step = Code.m0 ∧ t.draws = (if s.order = 3#2 then s.draws + 1 else s.draws)) ∧
    (s.loop.toNat ≠ 1008 → ∃ t, exec .term s = .next t ∧ t.dataNext = s.wordNo s.loop.toNat ∧ t.step = Code.x15 ∧
      t.draws = (if s.order = 3#2 then s.draws + 1 else s.draws)) ∧
    (s.order = 3#2 → ∀ k, s.wordNo k = Config.freeValue s.draws)

/-- For every datum: if STEP is IDLE and ORDER is not 3, START completes with DONE = 0 and STEP = INIT, SEED, ORDER,
BUF and every other register kept, CHK_HI and CHK_LO left without a stated value; in every other state it
completes and changes nothing at all. For a datum with bit 0 set this is R201 and R202; that the term start acts
so also on a datum with bit 0 clear, which no access decodes to, is the model's choice (log entry 17, DESIGN
CHOICE). Derived from 45_host_operations.md R201, 45_host_operations.md R202. -/
def Obligations.StartRunsOnlyWhenIdleAndBound : Prop :=
  ∀ (s : State) (wdata : Word),
    if s.step = Code.idle ∧ s.order ≠ 3#2 then
      ∃ t, exec (.start wdata) s = .next t ∧ t.done = false ∧ t.step = Code.init ∧ t.busy = true ∧ s.SameRegion t ∧
        t = { s with done := t.done, step := t.step, chkHi := t.chkHi, chkLo := t.chkLo, draws := t.draws }
    else exec (.start wdata) s = .next s

/-- For every datum and every state, NOPCTRL completes and changes nothing; IDLE completes and changes nothing. For
a datum with bit 0 clear the first is R203; that the term nopctrl acts so also on a datum with bit 0 set, which
no access decodes to, is the model's choice (log entry 17, DESIGN CHOICE); that a turn in IDLE is a step that
completes is the model's reading of R210 (log entry 16, DEDUCED). Derived from 45_host_operations.md R203,
45_host_operations.md R210. -/
def Obligations.NopctrlAndIdleChangeNothing : Prop :=
  ∀ (s : State) (wdata : Word), exec (.nopctrl wdata) s = .next s ∧ exec .idle s = .next s

/-- For every datum: while STEP is IDLE, WRSEED completes with SEED = the datum modulo 2^8 and WRORDER with ORDER =
the datum modulo 2^2, nothing else changing; otherwise each completes and changes nothing. Formalises R206,
R208. -/
def Obligations.SeedAndOrderWritesKeepTheirFieldWhileIdle : Prop :=
  ∀ (s : State) (wdata : Word),
    if s.step = Code.idle then
      (∃ t, exec (.wrseed wdata) s = .next t ∧ t.seed.toNat = wdata.toNat % 2 ^ 8 ∧ s.SameRegion t ∧
        t = { s with seed := t.seed }) ∧
      (∃ t, exec (.wrorder wdata) s = .next t ∧ t.order.toNat = wdata.toNat % 2 ^ 2 ∧ s.SameRegion t ∧
        t = { s with order := t.order })
    else exec (.wrseed wdata) s = .next s ∧ exec (.wrorder wdata) s = .next s

/-- In every state RDCTRL, RDSEED and RDORDER complete; the datum returned is 0, SEED and ORDER as 32-bit numbers,
and nothing else changes. Formalises R204, R207, R209. -/
def Obligations.ConfigurationReadsReturnTheirRegister : Prop :=
  ∀ s : State,
    (exec .rdctrl s = .next { s with replies := 0#32 :: s.replies }) ∧
    (∃ v : Word, v.toNat = s.seed.toNat ∧ exec .rdseed s = .next { s with replies := v :: s.replies }) ∧
    (∃ v : Word, v.toNat = s.order.toNat ∧ exec .rdorder s = .next { s with replies := v :: s.replies })

/-- In every state RDSTATUS completes; the datum returned is 2*DONE + BUSY with BUSY = (STEP is not IDLE), and
nothing else changes; in a state of a run the datum is 0, 1 or 2. Derived from 10_state.md R42,
45_host_operations.md R205. -/
def Obligations.StatusReadReturnsDoneAndBusy : Prop :=
  ∀ s : State, ∃ v : Word,
    v.toNat = 2 * s.done.toNat + (if s.step = Code.idle then 0 else 1) ∧
    exec .rdstatus s = .next { s with replies := v :: s.replies } ∧
    (s.Inv → v = 0#32 ∨ v = 1#32 ∨ v = 2#32)

/-- If DONE = 1, RDCHKHI completes returning CHK_HI zero-extended and RDCHKLO returning CHK_LO, nothing else
changing; if DONE = 0, each completes returning some 32-bit value, of which nothing is said, and nothing else of
the block changes. Formalises R211, R212. -/
def Obligations.ResultReadsReturnTheChecksumOnceDone : Prop :=
  ∀ s : State,
    if s.done = true then
      (∃ v : Word, v.toNat = s.chkHi.toNat ∧ exec .rdchkhi s = .next { s with replies := v :: s.replies }) ∧
      exec .rdchklo s = .next { s with replies := s.chkLo :: s.replies }
    else
      (∃ (v : Word) (n : Nat), exec .rdchkhi s = .next { s with replies := v :: s.replies, draws := n }) ∧
      (∃ (v : Word) (n : Nat), exec .rdchklo s = .next { s with replies := v :: s.replies, draws := n })
end

