-- ==== Sys2Proof/Laws/Datapath.lean ====
section
/-! SUPPORT. The pieces of the datapath read as natural numbers. -/

namespace Sys2Proof.Machine

theorem ltu_iff (a b : Word) : ltu a b = true ↔ a.toNat < b.toNat := by simp [ltu]

@[simp] theorem mul64_toNat (a b : Word) : (mul64 a b).toNat = a.toNat * b.toNat := by
  have ha := a.isLt
  have hb := b.isLt
  have : a.toNat * b.toNat < 2 ^ 64 := by nlinarith
  simpa [mul64] using this

@[simp] theorem hi32_toNat (p : BitVec 64) : (hi32 p).toNat = p.toNat / 2 ^ 32 := by
  have := p.isLt
  simp only [hi32, BitVec.extractLsb'_toNat, Nat.shiftRight_eq_div_pow]
  omega

@[simp] theorem lo32_toNat (p : BitVec 64) : (lo32 p).toNat = p.toNat % 2 ^ 32 := by
  simp [lo32]

@[simp] theorem lo5_toNat (v : Word) : (lo5 v).toNat = v.toNat % 2 ^ 5 := by
  simp [lo5]

@[simp] theorem hi5_toNat (v : Word) : (hi5 v).toNat = v.toNat / 2 ^ 27 := by
  have := v.isLt
  simp only [hi5, BitVec.extractLsb'_toNat, Nat.shiftRight_eq_div_pow]
  omega

theorem bit0_iff (v : Word) : bit0 v = true ↔ v.toNat % 2 = 1 := by
  simp [bit0, BitVec.getLsbD, Nat.testBit_zero]

theorem bit1_iff (v : Word) : bit1 v = true ↔ v.toNat / 2 % 2 = 1 := by
  simp [bit1, BitVec.getLsbD, Nat.testBit_succ, Nat.testBit_zero]

@[simp] theorem seedField_toNat (v : Word) : (seedField v).toNat = v.toNat % 2 ^ 8 := by
  simp [seedField]

@[simp] theorem orderField_toNat (v : Word) : (orderField v).toNat = v.toNat % 2 ^ 2 := by
  simp [orderField]

@[simp] theorem State.loopZ_toNat (s : State) : s.loopZ.toNat = s.loop.toNat := by
  have := s.loop.isLt
  simp only [State.loopZ, BitVec.toNat_setWidth]
  omega

@[simp] theorem State.seedZ_toNat (s : State) : s.seedZ.toNat = s.seed.toNat := by
  have := s.seed.isLt
  simp only [State.seedZ, BitVec.toNat_setWidth]
  omega

/-- `FETCH` reads at four times the old `LOOP`, as a 12-bit number. -/
theorem fetchOffset_succ (loop : BitVec 11) : fetchOffset (loop + 1#11) = BitVec.ofNat 12 (4 * loop.toNat) := by
  simp only [fetchOffset, BitVec.add_sub_cancel]
  apply BitVec.eq_of_toNat_eq
  have := loop.isLt
  simp only [BitVec.toNat_mul, BitVec.toNat_setWidth, BitVec.toNat_ofNat]
  omega

/-- `TERM` reads at four times `LOOP`, as a 12-bit number. -/
theorem termOffset_eq (loop : BitVec 11) : termOffset loop = BitVec.ofNat 12 (4 * loop.toNat) := by
  apply BitVec.eq_of_toNat_eq
  have := loop.isLt
  simp only [termOffset, BitVec.toNat_mul, BitVec.toNat_setWidth, BitVec.toNat_ofNat]
  omega

/-- The four bytes in the order of each policy. -/
theorem assemble_big (b0 b1 b2 b3 : Byte) (v : Word) : assemble 0#2 b0 b1 b2 b3 v = b0 ++ b1 ++ b2 ++ b3 := rfl
theorem assemble_swapped (b0 b1 b2 b3 : Byte) (v : Word) : assemble 1#2 b0 b1 b2 b3 v = b1 ++ b0 ++ b3 ++ b2 := rfl
theorem assemble_little (b0 b1 b2 b3 : Byte) (v : Word) : assemble 2#2 b0 b1 b2 b3 v = b3 ++ b2 ++ b1 ++ b0 := rfl
theorem assemble_unbound (b0 b1 b2 b3 : Byte) (v : Word) : assemble 3#2 b0 b1 b2 b3 v = v := rfl

/-- The unbound value plays no part under a bound policy. -/
theorem assemble_bound {order : BitVec 2} (h : order ≠ 3#2) (b0 b1 b2 b3 : Byte) (v v' : Word) :
    assemble order b0 b1 b2 b3 v = assemble order b0 b1 b2 b3 v' := by
  have hall : ∀ o : BitVec 2, o ≠ 3#2 → o = 0#2 ∨ o = 1#2 ∨ o = 2#2 := by decide
  rcases hall order h with rfl | rfl | rfl <;> rfl

end Sys2Proof.Machine
end

