-- ==== Sys2Proof/Laws/Memory.lean ====
section
/-! SUPPORT. The laws of the region's list: a read after a write, and the canonical form kept. -/

namespace Sys2Proof.Machine

/-- An offset below every listed one reads as an unlisted byte. -/
theorem Memory.read_of_lt {m : Memory} {o : Nat} (h : ∀ d ∈ m, o < d.1) :
    Memory.read m o = Config.unlistedByte := by
  induction m with
  | nil => rfl
  | cons e rest ih =>
    have he : e.1 ≠ o := (h e (by simp)).ne'
    have hr := ih (fun d hd => h d (by simp [hd]))
    simp [Memory.read, he, hr]

/-- Each entry written is the byte stored, or one that was there. -/
theorem Memory.mem_write {m : Memory} {o : Nat} {b : Byte} {d : Host.Cell} (hd : d ∈ Memory.write m o b) :
    (d = (o, b) ∧ b ≠ Config.unlistedByte) ∨ d ∈ m := by
  induction m with
  | nil => simp only [Memory.write] at hd; split at hd <;> simp_all
  | cons e rest ih =>
    simp only [Memory.write] at hd
    split at hd
    · split at hd <;> simp_all
    · split at hd
      · split at hd <;> simp_all
        tauto
      · rcases List.mem_cons.1 hd with rfl | h
        · simp
        · rcases ih h with h | h <;> simp [h]

/-- A read after a store in a rising list: the byte stored at its offset, everywhere else what was there. -/
theorem Memory.read_write {m : Memory} (h : m.Pairwise (fun c d => c.1 < d.1)) (o a : Nat) (b : Byte) :
    Memory.read (Memory.write m o b) a = if a = o then b else Memory.read m a := by
  induction m with
  | nil =>
    by_cases hb : b = Config.unlistedByte <;> by_cases ha : a = o <;>
      simp [Memory.write, Memory.read, hb, ha, Ne.symm]
  | cons e rest ih =>
    obtain ⟨he, hrest⟩ := List.pairwise_cons.1 h
    simp only [Memory.write]
    split
    · rename_i hlt
      split
      · rename_i hb
        have hnone : Memory.read (e :: rest) o = Config.unlistedByte := by
          apply Memory.read_of_lt
          intro d hd
          rcases List.mem_cons.1 hd with rfl | hd
          · exact hlt
          · exact hlt.trans (he d hd)
        by_cases ha : a = o <;> simp_all
      · by_cases ha : a = o
        · simp [Memory.read, ha]
        · simp [Memory.read, ha, Ne.symm ha]
    · split
      · rename_i _ heq
        split
        · rename_i hb
          by_cases ha : a = o
          · have : Memory.read rest o = Config.unlistedByte :=
              Memory.read_of_lt (fun d hd => heq ▸ he d hd)
            simp_all
          · have : e.1 ≠ a := fun h => ha (h.symm.trans heq.symm)
            simp [Memory.read, ha, this]
        · by_cases ha : a = o
          · simp [Memory.read, ha]
          · have : e.1 ≠ a := fun h => ha (h.symm.trans heq.symm)
            simp [Memory.read, ha, Ne.symm ha, this]
      · rename_i _ hne
        by_cases hea : e.1 = a
        · have : a ≠ o := fun h => hne (h.symm.trans hea.symm)
          simp [Memory.read, hea, this]
        · simp [Memory.read, hea, ih hrest]

/-- A store inside the backed window keeps the canonical form. -/
theorem Memory.write_wf {len : Nat} {m : Memory} (h : Memory.wf len m) {o : Nat} (b : Byte) (ho : o < len)
    (hw : o < Config.regionWindow) : Memory.wf len (Memory.write m o b) := by
  obtain ⟨hs, hall⟩ := h
  refine ⟨?_, fun d hd => ?_⟩
  · clear hall
    induction m with
    | nil => simp only [Memory.write]; split <;> simp
    | cons e rest ih =>
      obtain ⟨he, hrest⟩ := List.pairwise_cons.1 hs
      simp only [Memory.write]
      split
      · rename_i hlt
        split
        · exact hs
        · refine List.pairwise_cons.2 ⟨fun d hd => ?_, hs⟩
          rcases List.mem_cons.1 hd with rfl | hd
          · exact hlt
          · exact hlt.trans (he d hd)
      · split
        · rename_i _ heq
          split
          · exact hrest
          · exact List.pairwise_cons.2 ⟨fun d hd => heq ▸ he d hd, hrest⟩
        · refine List.pairwise_cons.2 ⟨fun d hd => ?_, ih hrest⟩
          rcases Memory.mem_write hd with ⟨rfl, _⟩ | hd
          · simp only; omega
          · exact he d hd
  · rcases Memory.mem_write hd with ⟨rfl, hb⟩ | hd
    · exact ⟨hb, ho, hw⟩
    · exact hall d hd

/-- A store whose byte is already there leaves a canonical list as it is. -/
theorem Memory.write_eq_self_iff {len : Nat} {m : Memory} (h : Memory.wf len m) (o : Nat) (b : Byte) :
    Memory.write m o b = m ↔ Memory.read m o = b := by
  constructor
  · intro e
    have := Memory.read_write h.1 o o b
    simpa [e] using this
  · intro e
    obtain ⟨hs, hall⟩ := h
    induction m with
    | nil => simp_all [Memory.write, Memory.read]
    | cons c rest ih =>
      obtain ⟨hc, hrest⟩ := List.pairwise_cons.1 hs
      have hne := (hall c (by simp)).1
      simp only [Memory.write]
      split
      · rename_i hlt
        have hnone : Memory.read (c :: rest) o = Config.unlistedByte := by
          apply Memory.read_of_lt
          intro d hd
          rcases List.mem_cons.1 hd with rfl | hd
          · exact hlt
          · exact hlt.trans (hc d hd)
        simp [← e, hnone]
      · split
        · rename_i _ heq
          have hb : c.2 = b := by simpa [Memory.read, heq] using e
          rw [if_neg (hb ▸ hne)]
          simp [← hb, heq]
        · rename_i _ hn
          have e' : Memory.read rest o = b := by simpa [Memory.read, Ne.symm hn] using e
          rw [ih e' hrest (fun d hd => hall d (by simp [hd]))]

end Sys2Proof.Machine
end

