-- ==== Sys2Proof/Laws/State.lean ====
section
/-! SUPPORT. One lemma per field and named update of State, so that no later proof unfolds a record update; then what the
indexed and derived readings see of each update. -/

namespace Sys2Proof.Machine

/-! ### setBuf -/

@[simp] theorem State.setBuf_cb (s : State) (i : Fin 16) (v : Word) : (s.setBuf i v).cb = s.cb := rfl
@[simp] theorem State.setBuf_dataLast (s : State) (i : Fin 16) (v : Word) : (s.setBuf i v).dataLast = s.dataLast := rfl
@[simp] theorem State.setBuf_data (s : State) (i : Fin 16) (v : Word) : (s.setBuf i v).data = s.data := rfl
@[simp] theorem State.setBuf_dataNext (s : State) (i : Fin 16) (v : Word) : (s.setBuf i v).dataNext = s.dataNext := rfl
@[simp] theorem State.setBuf_rotr5 (s : State) (i : Fin 16) (v : Word) : (s.setBuf i v).rotr5 = s.rotr5 := rfl
@[simp] theorem State.setBuf_rotl2 (s : State) (i : Fin 16) (v : Word) : (s.setBuf i v).rotl2 = s.rotl2 := rfl
@[simp] theorem State.setBuf_fdata (s : State) (i : Fin 16) (v : Word) : (s.setBuf i v).fdata = s.fdata := rfl
@[simp] theorem State.setBuf_tmp (s : State) (i : Fin 16) (v : Word) : (s.setBuf i v).tmp = s.tmp := rfl
@[simp] theorem State.setBuf_loop (s : State) (i : Fin 16) (v : Word) : (s.setBuf i v).loop = s.loop := rfl
@[simp] theorem State.setBuf_step (s : State) (i : Fin 16) (v : Word) : (s.setBuf i v).step = s.step := rfl
@[simp] theorem State.setBuf_done (s : State) (i : Fin 16) (v : Word) : (s.setBuf i v).done = s.done := rfl
@[simp] theorem State.setBuf_seed (s : State) (i : Fin 16) (v : Word) : (s.setBuf i v).seed = s.seed := rfl
@[simp] theorem State.setBuf_order (s : State) (i : Fin 16) (v : Word) : (s.setBuf i v).order = s.order := rfl
@[simp] theorem State.setBuf_chkHi (s : State) (i : Fin 16) (v : Word) : (s.setBuf i v).chkHi = s.chkHi := rfl
@[simp] theorem State.setBuf_chkLo (s : State) (i : Fin 16) (v : Word) : (s.setBuf i v).chkLo = s.chkLo := rfl
@[simp] theorem State.setBuf_region (s : State) (i : Fin 16) (v : Word) : (s.setBuf i v).region = s.region := rfl
@[simp] theorem State.setBuf_regionLen (s : State) (i : Fin 16) (v : Word) : (s.setBuf i v).regionLen = s.regionLen := rfl
@[simp] theorem State.setBuf_inputs (s : State) (i : Fin 16) (v : Word) : (s.setBuf i v).inputs = s.inputs := rfl
@[simp] theorem State.setBuf_replies (s : State) (i : Fin 16) (v : Word) : (s.setBuf i v).replies = s.replies := rfl
@[simp] theorem State.setBuf_reads (s : State) (i : Fin 16) (v : Word) : (s.setBuf i v).reads = s.reads := rfl
@[simp] theorem State.setBuf_draws (s : State) (i : Fin 16) (v : Word) : (s.setBuf i v).draws = s.draws := rfl
@[simp] theorem State.setBuf_cbGet (s : State) (i : Fin 16) (v : Word) (j : Fin 4) : (s.setBuf i v).cbGet j = s.cbGet j := rfl
@[simp] theorem State.setBuf_busy (s : State) (i : Fin 16) (v : Word) : (s.setBuf i v).busy = s.busy := rfl
@[simp] theorem State.setBuf_unbound (s : State) (i : Fin 16) (v : Word) : (s.setBuf i v).unbound = s.unbound := rfl
@[simp] theorem State.setBuf_readByte (s : State) (i : Fin 16) (v : Word) (a : Offset) : (s.setBuf i v).readByte a = s.readByte a := rfl
@[simp] theorem State.setBuf_wordAt (s : State) (i : Fin 16) (v : Word) (a : Offset) : (s.setBuf i v).wordAt a = s.wordAt a := rfl

/-! ### fillBuf -/

@[simp] theorem State.fillBuf_cb (s : State) (v : Word) : (s.fillBuf v).cb = s.cb := rfl
@[simp] theorem State.fillBuf_dataLast (s : State) (v : Word) : (s.fillBuf v).dataLast = s.dataLast := rfl
@[simp] theorem State.fillBuf_data (s : State) (v : Word) : (s.fillBuf v).data = s.data := rfl
@[simp] theorem State.fillBuf_dataNext (s : State) (v : Word) : (s.fillBuf v).dataNext = s.dataNext := rfl
@[simp] theorem State.fillBuf_rotr5 (s : State) (v : Word) : (s.fillBuf v).rotr5 = s.rotr5 := rfl
@[simp] theorem State.fillBuf_rotl2 (s : State) (v : Word) : (s.fillBuf v).rotl2 = s.rotl2 := rfl
@[simp] theorem State.fillBuf_fdata (s : State) (v : Word) : (s.fillBuf v).fdata = s.fdata := rfl
@[simp] theorem State.fillBuf_tmp (s : State) (v : Word) : (s.fillBuf v).tmp = s.tmp := rfl
@[simp] theorem State.fillBuf_loop (s : State) (v : Word) : (s.fillBuf v).loop = s.loop := rfl
@[simp] theorem State.fillBuf_step (s : State) (v : Word) : (s.fillBuf v).step = s.step := rfl
@[simp] theorem State.fillBuf_done (s : State) (v : Word) : (s.fillBuf v).done = s.done := rfl
@[simp] theorem State.fillBuf_seed (s : State) (v : Word) : (s.fillBuf v).seed = s.seed := rfl
@[simp] theorem State.fillBuf_order (s : State) (v : Word) : (s.fillBuf v).order = s.order := rfl
@[simp] theorem State.fillBuf_chkHi (s : State) (v : Word) : (s.fillBuf v).chkHi = s.chkHi := rfl
@[simp] theorem State.fillBuf_chkLo (s : State) (v : Word) : (s.fillBuf v).chkLo = s.chkLo := rfl
@[simp] theorem State.fillBuf_region (s : State) (v : Word) : (s.fillBuf v).region = s.region := rfl
@[simp] theorem State.fillBuf_regionLen (s : State) (v : Word) : (s.fillBuf v).regionLen = s.regionLen := rfl
@[simp] theorem State.fillBuf_inputs (s : State) (v : Word) : (s.fillBuf v).inputs = s.inputs := rfl
@[simp] theorem State.fillBuf_replies (s : State) (v : Word) : (s.fillBuf v).replies = s.replies := rfl
@[simp] theorem State.fillBuf_reads (s : State) (v : Word) : (s.fillBuf v).reads = s.reads := rfl
@[simp] theorem State.fillBuf_draws (s : State) (v : Word) : (s.fillBuf v).draws = s.draws := rfl
@[simp] theorem State.fillBuf_cbGet (s : State) (v : Word) (j : Fin 4) : (s.fillBuf v).cbGet j = s.cbGet j := rfl
@[simp] theorem State.fillBuf_busy (s : State) (v : Word) : (s.fillBuf v).busy = s.busy := rfl
@[simp] theorem State.fillBuf_unbound (s : State) (v : Word) : (s.fillBuf v).unbound = s.unbound := rfl
@[simp] theorem State.fillBuf_readByte (s : State) (v : Word) (a : Offset) : (s.fillBuf v).readByte a = s.readByte a := rfl
@[simp] theorem State.fillBuf_wordAt (s : State) (v : Word) (a : Offset) : (s.fillBuf v).wordAt a = s.wordAt a := rfl

/-! ### setCb -/

@[simp] theorem State.setCb_buf (s : State) (i : Fin 4) (v : Word) : (s.setCb i v).buf = s.buf := rfl
@[simp] theorem State.setCb_dataLast (s : State) (i : Fin 4) (v : Word) : (s.setCb i v).dataLast = s.dataLast := rfl
@[simp] theorem State.setCb_data (s : State) (i : Fin 4) (v : Word) : (s.setCb i v).data = s.data := rfl
@[simp] theorem State.setCb_dataNext (s : State) (i : Fin 4) (v : Word) : (s.setCb i v).dataNext = s.dataNext := rfl
@[simp] theorem State.setCb_rotr5 (s : State) (i : Fin 4) (v : Word) : (s.setCb i v).rotr5 = s.rotr5 := rfl
@[simp] theorem State.setCb_rotl2 (s : State) (i : Fin 4) (v : Word) : (s.setCb i v).rotl2 = s.rotl2 := rfl
@[simp] theorem State.setCb_fdata (s : State) (i : Fin 4) (v : Word) : (s.setCb i v).fdata = s.fdata := rfl
@[simp] theorem State.setCb_tmp (s : State) (i : Fin 4) (v : Word) : (s.setCb i v).tmp = s.tmp := rfl
@[simp] theorem State.setCb_loop (s : State) (i : Fin 4) (v : Word) : (s.setCb i v).loop = s.loop := rfl
@[simp] theorem State.setCb_step (s : State) (i : Fin 4) (v : Word) : (s.setCb i v).step = s.step := rfl
@[simp] theorem State.setCb_done (s : State) (i : Fin 4) (v : Word) : (s.setCb i v).done = s.done := rfl
@[simp] theorem State.setCb_seed (s : State) (i : Fin 4) (v : Word) : (s.setCb i v).seed = s.seed := rfl
@[simp] theorem State.setCb_order (s : State) (i : Fin 4) (v : Word) : (s.setCb i v).order = s.order := rfl
@[simp] theorem State.setCb_chkHi (s : State) (i : Fin 4) (v : Word) : (s.setCb i v).chkHi = s.chkHi := rfl
@[simp] theorem State.setCb_chkLo (s : State) (i : Fin 4) (v : Word) : (s.setCb i v).chkLo = s.chkLo := rfl
@[simp] theorem State.setCb_region (s : State) (i : Fin 4) (v : Word) : (s.setCb i v).region = s.region := rfl
@[simp] theorem State.setCb_regionLen (s : State) (i : Fin 4) (v : Word) : (s.setCb i v).regionLen = s.regionLen := rfl
@[simp] theorem State.setCb_inputs (s : State) (i : Fin 4) (v : Word) : (s.setCb i v).inputs = s.inputs := rfl
@[simp] theorem State.setCb_replies (s : State) (i : Fin 4) (v : Word) : (s.setCb i v).replies = s.replies := rfl
@[simp] theorem State.setCb_reads (s : State) (i : Fin 4) (v : Word) : (s.setCb i v).reads = s.reads := rfl
@[simp] theorem State.setCb_draws (s : State) (i : Fin 4) (v : Word) : (s.setCb i v).draws = s.draws := rfl
@[simp] theorem State.setCb_bufGet (s : State) (i : Fin 4) (v : Word) (j : Fin 16) : (s.setCb i v).bufGet j = s.bufGet j := rfl
@[simp] theorem State.setCb_busy (s : State) (i : Fin 4) (v : Word) : (s.setCb i v).busy = s.busy := rfl
@[simp] theorem State.setCb_unbound (s : State) (i : Fin 4) (v : Word) : (s.setCb i v).unbound = s.unbound := rfl
@[simp] theorem State.setCb_readByte (s : State) (i : Fin 4) (v : Word) (a : Offset) : (s.setCb i v).readByte a = s.readByte a := rfl
@[simp] theorem State.setCb_wordAt (s : State) (i : Fin 4) (v : Word) (a : Offset) : (s.setCb i v).wordAt a = s.wordAt a := rfl

/-! ### fillCb -/

@[simp] theorem State.fillCb_buf (s : State) (v : Word) : (s.fillCb v).buf = s.buf := rfl
@[simp] theorem State.fillCb_dataLast (s : State) (v : Word) : (s.fillCb v).dataLast = s.dataLast := rfl
@[simp] theorem State.fillCb_data (s : State) (v : Word) : (s.fillCb v).data = s.data := rfl
@[simp] theorem State.fillCb_dataNext (s : State) (v : Word) : (s.fillCb v).dataNext = s.dataNext := rfl
@[simp] theorem State.fillCb_rotr5 (s : State) (v : Word) : (s.fillCb v).rotr5 = s.rotr5 := rfl
@[simp] theorem State.fillCb_rotl2 (s : State) (v : Word) : (s.fillCb v).rotl2 = s.rotl2 := rfl
@[simp] theorem State.fillCb_fdata (s : State) (v : Word) : (s.fillCb v).fdata = s.fdata := rfl
@[simp] theorem State.fillCb_tmp (s : State) (v : Word) : (s.fillCb v).tmp = s.tmp := rfl
@[simp] theorem State.fillCb_loop (s : State) (v : Word) : (s.fillCb v).loop = s.loop := rfl
@[simp] theorem State.fillCb_step (s : State) (v : Word) : (s.fillCb v).step = s.step := rfl
@[simp] theorem State.fillCb_done (s : State) (v : Word) : (s.fillCb v).done = s.done := rfl
@[simp] theorem State.fillCb_seed (s : State) (v : Word) : (s.fillCb v).seed = s.seed := rfl
@[simp] theorem State.fillCb_order (s : State) (v : Word) : (s.fillCb v).order = s.order := rfl
@[simp] theorem State.fillCb_chkHi (s : State) (v : Word) : (s.fillCb v).chkHi = s.chkHi := rfl
@[simp] theorem State.fillCb_chkLo (s : State) (v : Word) : (s.fillCb v).chkLo = s.chkLo := rfl
@[simp] theorem State.fillCb_region (s : State) (v : Word) : (s.fillCb v).region = s.region := rfl
@[simp] theorem State.fillCb_regionLen (s : State) (v : Word) : (s.fillCb v).regionLen = s.regionLen := rfl
@[simp] theorem State.fillCb_inputs (s : State) (v : Word) : (s.fillCb v).inputs = s.inputs := rfl
@[simp] theorem State.fillCb_replies (s : State) (v : Word) : (s.fillCb v).replies = s.replies := rfl
@[simp] theorem State.fillCb_reads (s : State) (v : Word) : (s.fillCb v).reads = s.reads := rfl
@[simp] theorem State.fillCb_draws (s : State) (v : Word) : (s.fillCb v).draws = s.draws := rfl
@[simp] theorem State.fillCb_bufGet (s : State) (v : Word) (j : Fin 16) : (s.fillCb v).bufGet j = s.bufGet j := rfl
@[simp] theorem State.fillCb_busy (s : State) (v : Word) : (s.fillCb v).busy = s.busy := rfl
@[simp] theorem State.fillCb_unbound (s : State) (v : Word) : (s.fillCb v).unbound = s.unbound := rfl
@[simp] theorem State.fillCb_readByte (s : State) (v : Word) (a : Offset) : (s.fillCb v).readByte a = s.readByte a := rfl
@[simp] theorem State.fillCb_wordAt (s : State) (v : Word) (a : Offset) : (s.fillCb v).wordAt a = s.wordAt a := rfl

/-! ### goto -/

@[simp] theorem State.goto_buf (s : State) (code : BitVec 5) : (s.goto code).buf = s.buf := rfl
@[simp] theorem State.goto_cb (s : State) (code : BitVec 5) : (s.goto code).cb = s.cb := rfl
@[simp] theorem State.goto_dataLast (s : State) (code : BitVec 5) : (s.goto code).dataLast = s.dataLast := rfl
@[simp] theorem State.goto_data (s : State) (code : BitVec 5) : (s.goto code).data = s.data := rfl
@[simp] theorem State.goto_dataNext (s : State) (code : BitVec 5) : (s.goto code).dataNext = s.dataNext := rfl
@[simp] theorem State.goto_rotr5 (s : State) (code : BitVec 5) : (s.goto code).rotr5 = s.rotr5 := rfl
@[simp] theorem State.goto_rotl2 (s : State) (code : BitVec 5) : (s.goto code).rotl2 = s.rotl2 := rfl
@[simp] theorem State.goto_fdata (s : State) (code : BitVec 5) : (s.goto code).fdata = s.fdata := rfl
@[simp] theorem State.goto_tmp (s : State) (code : BitVec 5) : (s.goto code).tmp = s.tmp := rfl
@[simp] theorem State.goto_loop (s : State) (code : BitVec 5) : (s.goto code).loop = s.loop := rfl
@[simp] theorem State.goto_step (s : State) (code : BitVec 5) : (s.goto code).step = code := rfl
@[simp] theorem State.goto_done (s : State) (code : BitVec 5) : (s.goto code).done = s.done := rfl
@[simp] theorem State.goto_seed (s : State) (code : BitVec 5) : (s.goto code).seed = s.seed := rfl
@[simp] theorem State.goto_order (s : State) (code : BitVec 5) : (s.goto code).order = s.order := rfl
@[simp] theorem State.goto_chkHi (s : State) (code : BitVec 5) : (s.goto code).chkHi = s.chkHi := rfl
@[simp] theorem State.goto_chkLo (s : State) (code : BitVec 5) : (s.goto code).chkLo = s.chkLo := rfl
@[simp] theorem State.goto_region (s : State) (code : BitVec 5) : (s.goto code).region = s.region := rfl
@[simp] theorem State.goto_regionLen (s : State) (code : BitVec 5) : (s.goto code).regionLen = s.regionLen := rfl
@[simp] theorem State.goto_inputs (s : State) (code : BitVec 5) : (s.goto code).inputs = s.inputs := rfl
@[simp] theorem State.goto_replies (s : State) (code : BitVec 5) : (s.goto code).replies = s.replies := rfl
@[simp] theorem State.goto_reads (s : State) (code : BitVec 5) : (s.goto code).reads = s.reads := rfl
@[simp] theorem State.goto_draws (s : State) (code : BitVec 5) : (s.goto code).draws = s.draws := rfl
@[simp] theorem State.goto_bufGet (s : State) (code : BitVec 5) (j : Fin 16) : (s.goto code).bufGet j = s.bufGet j := rfl
@[simp] theorem State.goto_cbGet (s : State) (code : BitVec 5) (j : Fin 4) : (s.goto code).cbGet j = s.cbGet j := rfl
@[simp] theorem State.goto_unbound (s : State) (code : BitVec 5) : (s.goto code).unbound = s.unbound := rfl
@[simp] theorem State.goto_readByte (s : State) (code : BitVec 5) (a : Offset) : (s.goto code).readByte a = s.readByte a := rfl
@[simp] theorem State.goto_wordAt (s : State) (code : BitVec 5) (a : Offset) : (s.goto code).wordAt a = s.wordAt a := rfl

/-! ### noteRead -/

@[simp] theorem State.noteRead_buf (s : State) (o : Offset) : (s.noteRead o).buf = s.buf := rfl
@[simp] theorem State.noteRead_cb (s : State) (o : Offset) : (s.noteRead o).cb = s.cb := rfl
@[simp] theorem State.noteRead_dataLast (s : State) (o : Offset) : (s.noteRead o).dataLast = s.dataLast := rfl
@[simp] theorem State.noteRead_data (s : State) (o : Offset) : (s.noteRead o).data = s.data := rfl
@[simp] theorem State.noteRead_dataNext (s : State) (o : Offset) : (s.noteRead o).dataNext = s.dataNext := rfl
@[simp] theorem State.noteRead_rotr5 (s : State) (o : Offset) : (s.noteRead o).rotr5 = s.rotr5 := rfl
@[simp] theorem State.noteRead_rotl2 (s : State) (o : Offset) : (s.noteRead o).rotl2 = s.rotl2 := rfl
@[simp] theorem State.noteRead_fdata (s : State) (o : Offset) : (s.noteRead o).fdata = s.fdata := rfl
@[simp] theorem State.noteRead_tmp (s : State) (o : Offset) : (s.noteRead o).tmp = s.tmp := rfl
@[simp] theorem State.noteRead_loop (s : State) (o : Offset) : (s.noteRead o).loop = s.loop := rfl
@[simp] theorem State.noteRead_step (s : State) (o : Offset) : (s.noteRead o).step = s.step := rfl
@[simp] theorem State.noteRead_done (s : State) (o : Offset) : (s.noteRead o).done = s.done := rfl
@[simp] theorem State.noteRead_seed (s : State) (o : Offset) : (s.noteRead o).seed = s.seed := rfl
@[simp] theorem State.noteRead_order (s : State) (o : Offset) : (s.noteRead o).order = s.order := rfl
@[simp] theorem State.noteRead_chkHi (s : State) (o : Offset) : (s.noteRead o).chkHi = s.chkHi := rfl
@[simp] theorem State.noteRead_chkLo (s : State) (o : Offset) : (s.noteRead o).chkLo = s.chkLo := rfl
@[simp] theorem State.noteRead_region (s : State) (o : Offset) : (s.noteRead o).region = s.region := rfl
@[simp] theorem State.noteRead_regionLen (s : State) (o : Offset) : (s.noteRead o).regionLen = s.regionLen := rfl
@[simp] theorem State.noteRead_inputs (s : State) (o : Offset) : (s.noteRead o).inputs = s.inputs := rfl
@[simp] theorem State.noteRead_replies (s : State) (o : Offset) : (s.noteRead o).replies = s.replies := rfl
@[simp] theorem State.noteRead_reads (s : State) (o : Offset) : (s.noteRead o).reads = o :: s.reads := rfl
@[simp] theorem State.noteRead_draws (s : State) (o : Offset) : (s.noteRead o).draws = if s.unbound then s.draws + 1 else s.draws := rfl
@[simp] theorem State.noteRead_bufGet (s : State) (o : Offset) (j : Fin 16) : (s.noteRead o).bufGet j = s.bufGet j := rfl
@[simp] theorem State.noteRead_cbGet (s : State) (o : Offset) (j : Fin 4) : (s.noteRead o).cbGet j = s.cbGet j := rfl
@[simp] theorem State.noteRead_busy (s : State) (o : Offset) : (s.noteRead o).busy = s.busy := rfl
@[simp] theorem State.noteRead_unbound (s : State) (o : Offset) : (s.noteRead o).unbound = s.unbound := rfl
@[simp] theorem State.noteRead_readByte (s : State) (o : Offset) (a : Offset) : (s.noteRead o).readByte a = s.readByte a := rfl

/-! ### reply -/

@[simp] theorem State.reply_buf (s : State) (v : Word) : (s.reply v).buf = s.buf := rfl
@[simp] theorem State.reply_cb (s : State) (v : Word) : (s.reply v).cb = s.cb := rfl
@[simp] theorem State.reply_dataLast (s : State) (v : Word) : (s.reply v).dataLast = s.dataLast := rfl
@[simp] theorem State.reply_data (s : State) (v : Word) : (s.reply v).data = s.data := rfl
@[simp] theorem State.reply_dataNext (s : State) (v : Word) : (s.reply v).dataNext = s.dataNext := rfl
@[simp] theorem State.reply_rotr5 (s : State) (v : Word) : (s.reply v).rotr5 = s.rotr5 := rfl
@[simp] theorem State.reply_rotl2 (s : State) (v : Word) : (s.reply v).rotl2 = s.rotl2 := rfl
@[simp] theorem State.reply_fdata (s : State) (v : Word) : (s.reply v).fdata = s.fdata := rfl
@[simp] theorem State.reply_tmp (s : State) (v : Word) : (s.reply v).tmp = s.tmp := rfl
@[simp] theorem State.reply_loop (s : State) (v : Word) : (s.reply v).loop = s.loop := rfl
@[simp] theorem State.reply_step (s : State) (v : Word) : (s.reply v).step = s.step := rfl
@[simp] theorem State.reply_done (s : State) (v : Word) : (s.reply v).done = s.done := rfl
@[simp] theorem State.reply_seed (s : State) (v : Word) : (s.reply v).seed = s.seed := rfl
@[simp] theorem State.reply_order (s : State) (v : Word) : (s.reply v).order = s.order := rfl
@[simp] theorem State.reply_chkHi (s : State) (v : Word) : (s.reply v).chkHi = s.chkHi := rfl
@[simp] theorem State.reply_chkLo (s : State) (v : Word) : (s.reply v).chkLo = s.chkLo := rfl
@[simp] theorem State.reply_region (s : State) (v : Word) : (s.reply v).region = s.region := rfl
@[simp] theorem State.reply_regionLen (s : State) (v : Word) : (s.reply v).regionLen = s.regionLen := rfl
@[simp] theorem State.reply_inputs (s : State) (v : Word) : (s.reply v).inputs = s.inputs := rfl
@[simp] theorem State.reply_replies (s : State) (v : Word) : (s.reply v).replies = v :: s.replies := rfl
@[simp] theorem State.reply_reads (s : State) (v : Word) : (s.reply v).reads = s.reads := rfl
@[simp] theorem State.reply_draws (s : State) (v : Word) : (s.reply v).draws = s.draws := rfl
@[simp] theorem State.reply_bufGet (s : State) (v : Word) (j : Fin 16) : (s.reply v).bufGet j = s.bufGet j := rfl
@[simp] theorem State.reply_cbGet (s : State) (v : Word) (j : Fin 4) : (s.reply v).cbGet j = s.cbGet j := rfl
@[simp] theorem State.reply_busy (s : State) (v : Word) : (s.reply v).busy = s.busy := rfl
@[simp] theorem State.reply_unbound (s : State) (v : Word) : (s.reply v).unbound = s.unbound := rfl
@[simp] theorem State.reply_readByte (s : State) (v : Word) (a : Offset) : (s.reply v).readByte a = s.readByte a := rfl
@[simp] theorem State.reply_wordAt (s : State) (v : Word) (a : Offset) : (s.reply v).wordAt a = s.wordAt a := rfl

/-! ### replyOpen -/

@[simp] theorem State.replyOpen_buf (s : State) : s.replyOpen.buf = s.buf := rfl
@[simp] theorem State.replyOpen_cb (s : State) : s.replyOpen.cb = s.cb := rfl
@[simp] theorem State.replyOpen_dataLast (s : State) : s.replyOpen.dataLast = s.dataLast := rfl
@[simp] theorem State.replyOpen_data (s : State) : s.replyOpen.data = s.data := rfl
@[simp] theorem State.replyOpen_dataNext (s : State) : s.replyOpen.dataNext = s.dataNext := rfl
@[simp] theorem State.replyOpen_rotr5 (s : State) : s.replyOpen.rotr5 = s.rotr5 := rfl
@[simp] theorem State.replyOpen_rotl2 (s : State) : s.replyOpen.rotl2 = s.rotl2 := rfl
@[simp] theorem State.replyOpen_fdata (s : State) : s.replyOpen.fdata = s.fdata := rfl
@[simp] theorem State.replyOpen_tmp (s : State) : s.replyOpen.tmp = s.tmp := rfl
@[simp] theorem State.replyOpen_loop (s : State) : s.replyOpen.loop = s.loop := rfl
@[simp] theorem State.replyOpen_step (s : State) : s.replyOpen.step = s.step := rfl
@[simp] theorem State.replyOpen_done (s : State) : s.replyOpen.done = s.done := rfl
@[simp] theorem State.replyOpen_seed (s : State) : s.replyOpen.seed = s.seed := rfl
@[simp] theorem State.replyOpen_order (s : State) : s.replyOpen.order = s.order := rfl
@[simp] theorem State.replyOpen_chkHi (s : State) : s.replyOpen.chkHi = s.chkHi := rfl
@[simp] theorem State.replyOpen_chkLo (s : State) : s.replyOpen.chkLo = s.chkLo := rfl
@[simp] theorem State.replyOpen_region (s : State) : s.replyOpen.region = s.region := rfl
@[simp] theorem State.replyOpen_regionLen (s : State) : s.replyOpen.regionLen = s.regionLen := rfl
@[simp] theorem State.replyOpen_inputs (s : State) : s.replyOpen.inputs = s.inputs := rfl
@[simp] theorem State.replyOpen_replies (s : State) : s.replyOpen.replies = Config.freeValue s.draws :: s.replies := rfl
@[simp] theorem State.replyOpen_reads (s : State) : s.replyOpen.reads = s.reads := rfl
@[simp] theorem State.replyOpen_draws (s : State) : s.replyOpen.draws = s.draws + 1 := rfl
@[simp] theorem State.replyOpen_bufGet (s : State) (j : Fin 16) : s.replyOpen.bufGet j = s.bufGet j := rfl
@[simp] theorem State.replyOpen_cbGet (s : State) (j : Fin 4) : s.replyOpen.cbGet j = s.cbGet j := rfl
@[simp] theorem State.replyOpen_busy (s : State) : s.replyOpen.busy = s.busy := rfl
@[simp] theorem State.replyOpen_unbound (s : State) : s.replyOpen.unbound = s.unbound := rfl
@[simp] theorem State.replyOpen_readByte (s : State) (a : Offset) : s.replyOpen.readByte a = s.readByte a := rfl

/-! ### dropResult -/

@[simp] theorem State.dropResult_buf (s : State) : s.dropResult.buf = s.buf := rfl
@[simp] theorem State.dropResult_cb (s : State) : s.dropResult.cb = s.cb := rfl
@[simp] theorem State.dropResult_dataLast (s : State) : s.dropResult.dataLast = s.dataLast := rfl
@[simp] theorem State.dropResult_data (s : State) : s.dropResult.data = s.data := rfl
@[simp] theorem State.dropResult_dataNext (s : State) : s.dropResult.dataNext = s.dataNext := rfl
@[simp] theorem State.dropResult_rotr5 (s : State) : s.dropResult.rotr5 = s.rotr5 := rfl
@[simp] theorem State.dropResult_rotl2 (s : State) : s.dropResult.rotl2 = s.rotl2 := rfl
@[simp] theorem State.dropResult_fdata (s : State) : s.dropResult.fdata = s.fdata := rfl
@[simp] theorem State.dropResult_tmp (s : State) : s.dropResult.tmp = s.tmp := rfl
@[simp] theorem State.dropResult_loop (s : State) : s.dropResult.loop = s.loop := rfl
@[simp] theorem State.dropResult_step (s : State) : s.dropResult.step = s.step := rfl
@[simp] theorem State.dropResult_done (s : State) : s.dropResult.done = s.done := rfl
@[simp] theorem State.dropResult_seed (s : State) : s.dropResult.seed = s.seed := rfl
@[simp] theorem State.dropResult_order (s : State) : s.dropResult.order = s.order := rfl
@[simp] theorem State.dropResult_region (s : State) : s.dropResult.region = s.region := rfl
@[simp] theorem State.dropResult_regionLen (s : State) : s.dropResult.regionLen = s.regionLen := rfl
@[simp] theorem State.dropResult_inputs (s : State) : s.dropResult.inputs = s.inputs := rfl
@[simp] theorem State.dropResult_replies (s : State) : s.dropResult.replies = s.replies := rfl
@[simp] theorem State.dropResult_reads (s : State) : s.dropResult.reads = s.reads := rfl
@[simp] theorem State.dropResult_draws (s : State) : s.dropResult.draws = s.draws + 2 := rfl
@[simp] theorem State.dropResult_bufGet (s : State) (j : Fin 16) : s.dropResult.bufGet j = s.bufGet j := rfl
@[simp] theorem State.dropResult_cbGet (s : State) (j : Fin 4) : s.dropResult.cbGet j = s.cbGet j := rfl
@[simp] theorem State.dropResult_busy (s : State) : s.dropResult.busy = s.busy := rfl
@[simp] theorem State.dropResult_unbound (s : State) : s.dropResult.unbound = s.unbound := rfl
@[simp] theorem State.dropResult_readByte (s : State) (a : Offset) : s.dropResult.readByte a = s.readByte a := rfl

/-! ### What the indexed reads see of the indexed writes -/

@[simp] theorem State.setBuf_bufGet_same (s : State) (i : Fin 16) (v : Word) : (s.setBuf i v).bufGet i = v := by
  simp [State.setBuf, State.bufGet]

@[simp] theorem State.setBuf_bufGet_ne (s : State) {i j : Fin 16} (v : Word) (h : j ≠ i) :
    (s.setBuf i v).bufGet j = s.bufGet j := by
  simp only [State.setBuf, State.bufGet, Fin.getElem_fin]
  exact Vector.getElem_set_ne _ _ (fun e => h (Fin.ext e.symm))

theorem State.setBuf_bufGet (s : State) (i j : Fin 16) (v : Word) :
    (s.setBuf i v).bufGet j = if j = i then v else s.bufGet j := by
  by_cases h : j = i <;> simp [h]

@[simp] theorem State.fillBuf_bufGet (s : State) (v : Word) (j : Fin 16) : (s.fillBuf v).bufGet j = v := by
  simp [State.fillBuf, State.bufGet]

@[simp] theorem State.setCb_cbGet_same (s : State) (i : Fin 4) (v : Word) : (s.setCb i v).cbGet i = v := by
  simp [State.setCb, State.cbGet]

@[simp] theorem State.setCb_cbGet_ne (s : State) {i j : Fin 4} (v : Word) (h : j ≠ i) :
    (s.setCb i v).cbGet j = s.cbGet j := by
  simp only [State.setCb, State.cbGet, Fin.getElem_fin]
  exact Vector.getElem_set_ne _ _ (fun e => h (Fin.ext e.symm))

theorem State.setCb_cbGet (s : State) (i j : Fin 4) (v : Word) :
    (s.setCb i v).cbGet j = if j = i then v else s.cbGet j := by
  by_cases h : j = i <;> simp [h]

@[simp] theorem State.fillCb_cbGet (s : State) (v : Word) (j : Fin 4) : (s.fillCb v).cbGet j = v := by
  simp [State.fillCb, State.cbGet]

@[simp] theorem State.goto_busy (s : State) (code : BitVec 5) : (s.goto code).busy = (code != Code.idle) := rfl

/-! ### The state reset leaves -/

@[simp] theorem State.reset_step : State.reset.step = Code.idle := rfl
@[simp] theorem State.reset_done : State.reset.done = false := rfl
@[simp] theorem State.reset_seed : State.reset.seed = 0x00#8 := rfl
@[simp] theorem State.reset_order : State.reset.order = 0#2 := rfl
@[simp] theorem State.reset_region : State.reset.region = [] := rfl
@[simp] theorem State.reset_regionLen : State.reset.regionLen = Config.regionLenDefault := rfl
@[simp] theorem State.reset_inputs : State.reset.inputs = [] := rfl

end Sys2Proof.Machine
end

