-- ==== Sys2Proof/Laws/Ops.lean ====
section
/-! SUPPORT. One lemma per shared operation: all it can do. -/

namespace Sys2Proof.Machine

theorem State.busy_iff (s : State) : s.busy = true ↔ s.step ≠ Code.idle := by simp [State.busy]

theorem State.not_busy_iff (s : State) : s.busy = false ↔ s.step = Code.idle := by simp [State.busy]

theorem State.unbound_iff (s : State) : s.unbound = true ↔ s.order = 3#2 := by simp [State.unbound]

theorem State.bound_iff (s : State) : s.unbound = false ↔ s.order ≠ 3#2 := by simp [State.unbound]

theorem State.statusWord_toNat (s : State) : s.statusWord.toNat = 2 * s.done.toNat + s.busy.toNat := by
  unfold State.statusWord
  cases s.done <;> cases s.busy <;> rfl

theorem State.readByte_eq (s : State) (o : Offset) :
    s.readByte o = if o.toNat < s.regionLen then Memory.read s.region o.toNat else 0x00#8 := rfl

/-- What a word read depends on when a Word Source is bound: the policy and the four bytes. -/
theorem State.wordAt_congr {s t : State} (hb : s.order ≠ 3#2) (ho : t.order = s.order)
    (hr : ∀ a, t.readByte a = s.readByte a) (o : Offset) : t.wordAt o = s.wordAt o := by
  simp only [State.wordAt, ho, hr]
  exact assemble_bound hb _ _ _ _ _ _

theorem State.wordNo_congr {s t : State} (hb : s.order ≠ 3#2) (ho : t.order = s.order)
    (hr : ∀ a, t.readByte a = s.readByte a) (k : Nat) : t.wordNo k = s.wordNo k :=
  State.wordAt_congr hb ho hr _

/-- With a Word Source bound a region read leaves only its observation. -/
theorem State.noteRead_bound {s : State} (hb : s.order ≠ 3#2) (o : Offset) :
    s.noteRead o = { s with reads := o :: s.reads } := by
  simp [State.noteRead, (State.bound_iff s).2 hb]

/-- A platform store, where its offset is backed. -/
theorem State.storedRegion_backed {s : State} {o : Offset} (h : o.toNat < s.regionLen) (b : Byte) :
    s.storedRegion o b = Memory.write s.region o.toNat b := if_pos h

/-- A platform store, where its offset is not backed. -/
theorem State.storedRegion_unbacked {s : State} {o : Offset} (h : ¬ o.toNat < s.regionLen) (b : Byte) :
    s.storedRegion o b = s.region := if_neg h

/-- A platform store keeps the region's canonical form. -/
theorem State.storedRegion_wf {s : State} (h : Memory.wf s.regionLen s.region) (o : Offset) (b : Byte) :
    Memory.wf s.regionLen (s.storedRegion o b) := by
  by_cases ho : o.toNat < s.regionLen
  · rw [State.storedRegion_backed ho]
    exact Memory.write_wf h b ho o.isLt
  · rwa [State.storedRegion_unbacked ho]

/-- All a platform store can do: store while idle, leave the region as it is, or be refused. -/
theorem platformStore_cases (o : Offset) (b : Byte) (s : State) :
    (s.busy = false ∧ platformStore o b s = .next { s with region := s.storedRegion o b }) ∨
    (s.busy = true ∧ s.storedRegion o b = s.region ∧ platformStore o b s = .next s) ∨
    (s.busy = true ∧ s.storedRegion o b ≠ s.region ∧ platformStore o b s = .refused .regionChangedWhileBusy) := by
  cases hb : s.busy
  · exact .inl ⟨rfl, by simp [platformStore, hb]⟩
  · by_cases hr : s.storedRegion o b = s.region
    · exact .inr (.inl ⟨rfl, hr, by simp [platformStore, hb, hr]⟩)
    · exact .inr (.inr ⟨rfl, hr, by simp [platformStore, hb, hr]⟩)

/-! What the external reset assigns, and what it leaves. -/

@[simp] theorem hardReset_step (s : State) : (hardReset s).step = Code.idle := rfl
@[simp] theorem hardReset_done (s : State) : (hardReset s).done = false := rfl
@[simp] theorem hardReset_seed (s : State) : (hardReset s).seed = 0x00#8 := rfl
@[simp] theorem hardReset_order (s : State) : (hardReset s).order = 0#2 := rfl
@[simp] theorem hardReset_region (s : State) : (hardReset s).region = s.region := rfl
@[simp] theorem hardReset_regionLen (s : State) : (hardReset s).regionLen = s.regionLen := rfl
@[simp] theorem hardReset_inputs (s : State) : (hardReset s).inputs = s.inputs := rfl
@[simp] theorem hardReset_replies (s : State) : (hardReset s).replies = s.replies := rfl
@[simp] theorem hardReset_busy (s : State) : (hardReset s).busy = false := rfl
@[simp] theorem hardReset_readByte (s : State) (o : Offset) : (hardReset s).readByte o = s.readByte o := rfl
@[simp] theorem hardReset_reads (s : State) : (hardReset s).reads = s.reads := rfl

/-- The two outcomes of `F3`'s loop control. -/
theorem State.nextPass_cases (s : State) :
    (s.loop = lastPass ∧ s.nextPass = s.goto Code.fsum) ∨
      (s.loop ≠ lastPass ∧ s.nextPass = { s with loop := s.loop + 1#11 }.goto Code.f0) := by
  by_cases h : s.loop = lastPass
  · exact .inl ⟨h, if_pos h⟩
  · exact .inr ⟨h, if_neg h⟩

theorem nullAccess_write (reg : Nat) (wdata : Word) (s : State) : nullAccess (.write reg wdata) s = s := rfl

theorem nullAccess_read (reg : Nat) (s : State) : nullAccess (.read reg) s = s.reply 0#32 := rfl

/-- The empty region is canonical: reset's region has the form every operation keeps. -/
theorem reset_region_wf : Memory.wf State.reset.regionLen State.reset.region := by decide

end Sys2Proof.Machine
end

