-- ==== Sys2Proof/Laws/PerInstr.lean ====
section
/-! SUPPORT. The family `EncodingNotReserved`, one lemma per constructor: no instruction is encoded by a reserved step code
(30_encoding.md R102) or by an access that is no operation (45_host_operations.md R213). -/

namespace Sys2Proof.Laws

/-- The operation words no row of the opcode table has. -/
def ReservedWord : OpWord → Prop
  | .step code => 25 < code.toNat
  | .host (.write reg _) => reg = 1 ∨ 3 < reg
  | .host (.read reg) => 5 < reg

def EncodingNotReserved.Statement (i : Instr) : Prop := ¬ ReservedWord (encode i)

theorem EncodingNotReserved.idle : EncodingNotReserved.Statement .idle := by
  simp [EncodingNotReserved.Statement, ReservedWord, encode, Code.idle]

theorem EncodingNotReserved.init : EncodingNotReserved.Statement .init := by
  simp [EncodingNotReserved.Statement, ReservedWord, encode, Code.init]

theorem EncodingNotReserved.fetch : EncodingNotReserved.Statement .fetch := by
  simp [EncodingNotReserved.Statement, ReservedWord, encode, Code.fetch]

theorem EncodingNotReserved.m0 : EncodingNotReserved.Statement .m0 := by
  simp [EncodingNotReserved.Statement, ReservedWord, encode, Code.m0]

theorem EncodingNotReserved.m1 : EncodingNotReserved.Statement .m1 := by
  simp [EncodingNotReserved.Statement, ReservedWord, encode, Code.m1]

theorem EncodingNotReserved.m2 : EncodingNotReserved.Statement .m2 := by
  simp [EncodingNotReserved.Statement, ReservedWord, encode, Code.m2]

theorem EncodingNotReserved.m3 : EncodingNotReserved.Statement .m3 := by
  simp [EncodingNotReserved.Statement, ReservedWord, encode, Code.m3]

theorem EncodingNotReserved.m9 : EncodingNotReserved.Statement .m9 := by
  simp [EncodingNotReserved.Statement, ReservedWord, encode, Code.m9]

theorem EncodingNotReserved.m4 : EncodingNotReserved.Statement .m4 := by
  simp [EncodingNotReserved.Statement, ReservedWord, encode, Code.m4]

theorem EncodingNotReserved.m7 : EncodingNotReserved.Statement .m7 := by
  simp [EncodingNotReserved.Statement, ReservedWord, encode, Code.m7]

theorem EncodingNotReserved.m6 : EncodingNotReserved.Statement .m6 := by
  simp [EncodingNotReserved.Statement, ReservedWord, encode, Code.m6]

theorem EncodingNotReserved.m5 : EncodingNotReserved.Statement .m5 := by
  simp [EncodingNotReserved.Statement, ReservedWord, encode, Code.m5]

theorem EncodingNotReserved.m8 : EncodingNotReserved.Statement .m8 := by
  simp [EncodingNotReserved.Statement, ReservedWord, encode, Code.m8]

theorem EncodingNotReserved.term : EncodingNotReserved.Statement .term := by
  simp [EncodingNotReserved.Statement, ReservedWord, encode, Code.term]

theorem EncodingNotReserved.x15 : EncodingNotReserved.Statement .x15 := by
  simp [EncodingNotReserved.Statement, ReservedWord, encode, Code.x15]

theorem EncodingNotReserved.x14 : EncodingNotReserved.Statement .x14 := by
  simp [EncodingNotReserved.Statement, ReservedWord, encode, Code.x14]

theorem EncodingNotReserved.x13 : EncodingNotReserved.Statement .x13 := by
  simp [EncodingNotReserved.Statement, ReservedWord, encode, Code.x13]

theorem EncodingNotReserved.x10 : EncodingNotReserved.Statement .x10 := by
  simp [EncodingNotReserved.Statement, ReservedWord, encode, Code.x10]

theorem EncodingNotReserved.x11 : EncodingNotReserved.Statement .x11 := by
  simp [EncodingNotReserved.Statement, ReservedWord, encode, Code.x11]

theorem EncodingNotReserved.x12 : EncodingNotReserved.Statement .x12 := by
  simp [EncodingNotReserved.Statement, ReservedWord, encode, Code.x12]

theorem EncodingNotReserved.finit : EncodingNotReserved.Statement .finit := by
  simp [EncodingNotReserved.Statement, ReservedWord, encode, Code.finit]

theorem EncodingNotReserved.f0 : EncodingNotReserved.Statement .f0 := by
  simp [EncodingNotReserved.Statement, ReservedWord, encode, Code.f0]

theorem EncodingNotReserved.f1 : EncodingNotReserved.Statement .f1 := by
  simp [EncodingNotReserved.Statement, ReservedWord, encode, Code.f1]

theorem EncodingNotReserved.f2 : EncodingNotReserved.Statement .f2 := by
  simp [EncodingNotReserved.Statement, ReservedWord, encode, Code.f2]

theorem EncodingNotReserved.f3 : EncodingNotReserved.Statement .f3 := by
  simp [EncodingNotReserved.Statement, ReservedWord, encode, Code.f3]

theorem EncodingNotReserved.fsum : EncodingNotReserved.Statement .fsum := by
  simp [EncodingNotReserved.Statement, ReservedWord, encode, Code.fsum]

theorem EncodingNotReserved.start (wdata : Word) : EncodingNotReserved.Statement (.start wdata) := by
  simp [EncodingNotReserved.Statement, ReservedWord, encode, Reg.ctrl]

theorem EncodingNotReserved.nopctrl (wdata : Word) : EncodingNotReserved.Statement (.nopctrl wdata) := by
  simp [EncodingNotReserved.Statement, ReservedWord, encode, Reg.ctrl]

theorem EncodingNotReserved.rdctrl : EncodingNotReserved.Statement .rdctrl := by
  simp [EncodingNotReserved.Statement, ReservedWord, encode, Reg.ctrl]

theorem EncodingNotReserved.rdstatus : EncodingNotReserved.Statement .rdstatus := by
  simp [EncodingNotReserved.Statement, ReservedWord, encode, Reg.status]

theorem EncodingNotReserved.wrseed (wdata : Word) : EncodingNotReserved.Statement (.wrseed wdata) := by
  simp [EncodingNotReserved.Statement, ReservedWord, encode, Reg.seed]

theorem EncodingNotReserved.rdseed : EncodingNotReserved.Statement .rdseed := by
  simp [EncodingNotReserved.Statement, ReservedWord, encode, Reg.seed]

theorem EncodingNotReserved.wrorder (wdata : Word) : EncodingNotReserved.Statement (.wrorder wdata) := by
  simp [EncodingNotReserved.Statement, ReservedWord, encode, Reg.order]

theorem EncodingNotReserved.rdorder : EncodingNotReserved.Statement .rdorder := by
  simp [EncodingNotReserved.Statement, ReservedWord, encode, Reg.order]

theorem EncodingNotReserved.rdchkhi : EncodingNotReserved.Statement .rdchkhi := by
  simp [EncodingNotReserved.Statement, ReservedWord, encode, Reg.chkHi]

theorem EncodingNotReserved.rdchklo : EncodingNotReserved.Statement .rdchklo := by
  simp [EncodingNotReserved.Statement, ReservedWord, encode, Reg.chkLo]

end Sys2Proof.Laws
end

