-- ==== Sys2Proof/Laws/Step.lean ====
section
/-! SUPPORT. What the decoder can answer, and what one step can do, said once. -/

namespace Sys2Proof.Machine

/-- A host access is an operation, or is rejected as none; never as a step code. -/
theorem decodeHost_cases (access : HostAccess) :
    (∃ i, decodeHost access = .ok i) ∨ decodeHost access = .error (.noHostOperation access) := by
  unfold decodeHost
  split <;> first | exact .inl ⟨_, rfl⟩ | exact .inr rfl | skip
  split <;> exact .inl ⟨_, rfl⟩

/-- A code up to 25 is a step; a larger one is rejected as reserved. -/
theorem decodeStep_cases (code : BitVec 5) :
    (code.toNat ≤ 25 ∧ ∃ i, decodeStep code = .ok i) ∨
      (25 < code.toNat ∧ decodeStep code = .error (.reservedStepCode code)) := by
  have h : ∀ c : Fin 32, (c.val ≤ 25 ∧ (decodeStep (BitVec.ofFin c)).isOk = true) ∨
      (25 < c.val ∧ decodeStep (BitVec.ofFin c) = .error (.reservedStepCode (BitVec.ofFin c))) := by
    decide +revert
  rcases h code.toFin with ⟨h1, h2⟩ | h
  · refine .inl ⟨h1, ?_⟩
    change (decodeStep code).isOk = true at h2
    cases e : decodeStep code with
    | ok i => exact ⟨i, rfl⟩
    | error x => rw [e] at h2; cases h2
  · exact .inr h

/-- The sequencer's turn: the step whose code `STEP` holds is run, on `s'`, which is `s` with a turn taken from the
queue if one stood there. -/
def SequencerTurn (s s' : State) : Prop :=
  (s.inputs = [] ∧ s' = s) ∨ ∃ rest, s.inputs = .tick :: rest ∧ s' = { s with inputs := rest }

/-- All a completing step can be: the sequencer's step, a host operation, an access without effect, the external
reset, or a platform store that is allowed. -/
theorem step_next_cases {s t : State} (h : step s = .next t) :
    (∃ i s', SequencerTurn s s' ∧ decodeStep s.step = .ok i ∧ exec i s' = .next t) ∨
    (∃ i access rest, s.inputs = .host access :: rest ∧ decodeHost access = .ok i ∧
      exec i { s with inputs := rest } = .next t) ∨
    (∃ access rest, s.inputs = .host access :: rest ∧ decodeHost access = .error (.noHostOperation access) ∧
      t = nullAccess access { s with inputs := rest }) ∨
    (∃ rest, s.inputs = .reset :: rest ∧ t = hardReset { s with inputs := rest }) ∨
    (∃ o b rest, s.inputs = .store o b :: rest ∧ platformStore o b { s with inputs := rest } = .next t) := by
  unfold step fetch at h
  rcases hi : s.inputs with _ | ⟨e, rest⟩
  · simp only [hi, decode] at h
    rcases decodeStep_cases s.step with ⟨_, i, hd⟩ | ⟨_, hd⟩
    · rw [hd] at h
      exact .inl ⟨i, s, .inl ⟨hi, rfl⟩, hd, h⟩
    · rw [hd] at h
      cases h
  · cases e with
    | tick =>
      simp only [hi, decode] at h
      rcases decodeStep_cases s.step with ⟨_, i, hd⟩ | ⟨_, hd⟩
      · rw [hd] at h
        exact .inl ⟨i, _, .inr ⟨rest, hi, rfl⟩, hd, h⟩
      · rw [hd] at h
        cases h
    | host access =>
      simp only [hi, decode] at h
      rcases decodeHost_cases access with ⟨i, hd⟩ | hd
      · rw [hd] at h
        exact .inr (.inl ⟨i, access, rest, rfl, hd, h⟩)
      · rw [hd] at h
        cases h
        exact .inr (.inr (.inl ⟨access, rest, rfl, hd, rfl⟩))
    | reset =>
      simp only [hi] at h
      cases h
      exact .inr (.inr (.inr (.inl ⟨rest, rfl, rfl⟩)))
    | store o b =>
      simp only [hi] at h
      exact .inr (.inr (.inr (.inr ⟨o, b, rest, rfl, h⟩)))

end Sys2Proof.Machine
end

