-- ==== Sys2Proof/Tests/Slice0.lean ====
section
/-! SUPPORT. Small tests: ill-formed terms refused, words decoded, one step from spec/95_test_vectors.md where it has
a row, and for every statement with hypotheses a state that meets them. -/

namespace Sys2Proof.Tests

open Sys2Proof Sys2Proof.Machine

/-- An idle state with every word 0 and nothing waiting. -/
def bare : State where
  buf := Vector.replicate 16 0#32
  cb := Vector.replicate 4 0#32
  dataLast := 0#32
  data := 0#32
  dataNext := 0#32
  rotr5 := 0#32
  rotl2 := 0#32
  fdata := 0#32
  tmp := 0#32
  loop := 0#11
  step := Code.idle
  done := false
  seed := 0x00#8
  order := 0#2
  chkHi := 0#16
  chkLo := 0#32
  region := []
  regionLen := 4096
  inputs := []
  replies := []
  reads := []
  draws := 0

/-- What `f` reads in the state an instruction leads to. -/
def after {α : Type} (i : Instr) (s : State) (f : State → α) : Option α :=
  match exec i s with
  | .next t => some (f t)
  | .fault _ => none
  | .refused _ => none

/-- What `f` reads in the state one step leads to. -/
def stepped {α : Type} (s : State) (f : State → α) : Option α :=
  match step s with
  | .next t => some (f t)
  | .fault _ => none
  | .refused _ => none

/-! ### WellFormed: each check refuses an ill-formed term -/

theorem test_start_with_bit0_clear_is_ill_formed : (Instr.start 0xFFFFFFFE#32).wf = false := by decide
theorem test_nopctrl_with_bit0_set_is_ill_formed : (Instr.nopctrl 0x00000001#32).wf = false := by decide
theorem test_start_with_bit0_set_is_well_formed : (Instr.start 0x00000001#32).wf = true := by decide

/-! ### Decode: every constructor's word, from 30_encoding.md R92 and R97 -/

theorem test_decode_idle : decode (.step 0b00000#5) = .ok .idle := by decide
theorem test_decode_init : decode (.step 0b00001#5) = .ok .init := by decide
theorem test_decode_fetch : decode (.step 0b00010#5) = .ok .fetch := by decide
theorem test_decode_m0 : decode (.step 0b00011#5) = .ok .m0 := by decide
theorem test_decode_m1 : decode (.step 0b00100#5) = .ok .m1 := by decide
theorem test_decode_m2 : decode (.step 0b00101#5) = .ok .m2 := by decide
theorem test_decode_m3 : decode (.step 0b00110#5) = .ok .m3 := by decide
theorem test_decode_m9 : decode (.step 0b00111#5) = .ok .m9 := by decide
theorem test_decode_m4 : decode (.step 0b01000#5) = .ok .m4 := by decide
theorem test_decode_m7 : decode (.step 0b01001#5) = .ok .m7 := by decide
theorem test_decode_m6 : decode (.step 0b01010#5) = .ok .m6 := by decide
theorem test_decode_m5 : decode (.step 0b01011#5) = .ok .m5 := by decide
theorem test_decode_m8 : decode (.step 0b01100#5) = .ok .m8 := by decide
theorem test_decode_term : decode (.step 0b01101#5) = .ok .term := by decide
theorem test_decode_x15 : decode (.step 0b01110#5) = .ok .x15 := by decide
theorem test_decode_x14 : decode (.step 0b01111#5) = .ok .x14 := by decide
theorem test_decode_x13 : decode (.step 0b10000#5) = .ok .x13 := by decide
theorem test_decode_x10 : decode (.step 0b10001#5) = .ok .x10 := by decide
theorem test_decode_x11 : decode (.step 0b10010#5) = .ok .x11 := by decide
theorem test_decode_x12 : decode (.step 0b10011#5) = .ok .x12 := by decide
theorem test_decode_finit : decode (.step 0b10100#5) = .ok .finit := by decide
theorem test_decode_f0 : decode (.step 0b10101#5) = .ok .f0 := by decide
theorem test_decode_f1 : decode (.step 0b10110#5) = .ok .f1 := by decide
theorem test_decode_f2 : decode (.step 0b10111#5) = .ok .f2 := by decide
theorem test_decode_f3 : decode (.step 0b11000#5) = .ok .f3 := by decide
theorem test_decode_fsum : decode (.step 0b11001#5) = .ok .fsum := by decide

theorem test_decode_start_H1 : decode (.host (.write 0 0x00000001#32)) = .ok (.start 0x00000001#32) := by decide
theorem test_decode_start_H2 : decode (.host (.write 0 0xFFFFFFFF#32)) = .ok (.start 0xFFFFFFFF#32) := by decide
theorem test_decode_nopctrl_H4 : decode (.host (.write 0 0x80000002#32)) = .ok (.nopctrl 0x80000002#32) := by decide
theorem test_decode_rdctrl : decode (.host (.read 0)) = .ok (.rdctrl) := by decide
theorem test_decode_rdstatus : decode (.host (.read 1)) = .ok (.rdstatus) := by decide
theorem test_decode_wrseed_H6 : decode (.host (.write 2 0x0000013F#32)) = .ok (.wrseed 0x0000013F#32) := by decide
theorem test_decode_rdseed : decode (.host (.read 2)) = .ok (.rdseed) := by decide
theorem test_decode_wrorder_H10 : decode (.host (.write 3 0x00000002#32)) = .ok (.wrorder 0x00000002#32) := by decide
theorem test_decode_rdorder : decode (.host (.read 3)) = .ok (.rdorder) := by decide
theorem test_decode_rdchkhi : decode (.host (.read 4)) = .ok (.rdchkhi) := by decide
theorem test_decode_rdchklo : decode (.host (.read 5)) = .ok (.rdchklo) := by decide

/-- 30_encoding.md R102: codes 26 and 31 are reserved. -/
theorem test_decode_reserved_codes : decode (.step 0b11010#5) = .error (.reservedStepCode 0b11010#5) ∧
    decode (.step 0b11111#5) = .error (.reservedStepCode 0b11111#5) := by decide

/-- 45_host_operations.md R213: no operation of the table. -/
theorem test_decode_no_operation : (decode (.host (.write 1 0#32))).toOption = none ∧
    (decode (.host (.write 4 0x00001234#32))).toOption = none ∧ (decode (.host (.read 6))).toOption = none := by decide

/-- Bits 4:0 of a one byte row are the step code (30_encoding.md R92); a code that does not fit is rejected. -/
theorem test_table_word_step : decodeTableWord 8 0x01 = some .init ∧ decodeTableWord 8 0x19 = some .fsum ∧
    decodeTableWord 8 0x1A = none ∧ decodeTableWord 8 0x20 = none := by decide

/-- A 32-bit table word is the datum of a write of register 0; above it the model's own layout (log entry 12). -/
theorem test_table_word_host : decodeTableWord 32 0x00000001 = some (.start 1#32) ∧
    decodeTableWord 32 0x80000002 = some (.nopctrl 0x80000002#32) ∧
    decodeTableWord 40 0x30000000A = some .rdstatus ∧
    decodeTableWord 40 0x40000013F = some (.wrseed 0x0000013F#32) := by decide

/-- The table word of `INIT`, placed after reset, is what the next step runs. -/
theorem test_fetch_word_runs_init :
    (fetch (State.reset.withFetchWord 8 0x01)).1 = .op (.step 0b00001#5) := by decide

/-- The table word of `START`, placed after reset, is accepted by the next step: `STEP` is `INIT` (R201). -/
theorem test_fetch_word_runs_start :
    stepped (State.reset.withFetchWord 32 0x00000001) State.step = some 0b00001#5 := by decide

/-! ### One step of each instruction; the name ends in the row of spec/95_test_vectors.md the values come from -/

theorem test_init_I1 :
    after .init { bare with seed := 0x3F#8, region := [(0, 0x01#8), (1, 0x23#8), (2, 0x45#8), (3, 0x67#8)] } (fun t => (t.bufGet 15, t.data, t.step, t.reads)) = some (0x94F98ABB#32, 0x01234567#32, Code.fetch, [0#12]) := by decide
theorem test_init_I8 :
    after .init { bare with seed := 0x3F#8, order := 2#2, region := [(0, 0x80#8), (1, 0x37#8), (2, 0x12#8), (3, 0x40#8)] } (fun t => (t.bufGet 0, t.data, t.loop)) = some (0xD5C8F85C#32, 0x40123780#32, 0#11) := by decide
theorem test_fetch_K4 :
    after .fetch { bare with data := 0x01234567#32, loop := 1#11, order := 1#2, region := [(4, 0x5A#8), (5, 0x9F#8), (6, 0x18#8), (7, 0xBF#8)] } (fun t => (t.loop, t.dataLast, t.data, t.reads)) = some (2#11, 0x01234567#32, 0x9F5ABF18#32, [4#12]) := by decide
theorem test_fetch_K3 :
    after .fetch { bare with data := 0xBF237AF5#32, loop := 1007#11, region := [(4028, 0x5D#8), (4029, 0x5A#8), (4030, 0xF4#8), (4031, 0xA6#8)] } (fun t => (t.loop, t.dataLast, t.data, t.step)) = some (1008#11, 0xBF237AF5#32, 0x5D5AF4A6#32, Code.m0) := by decide
theorem test_m0_K7 :
    after .m0 (State.setBuf { bare with data := 0x5D5AF4A6#32, loop := 1008#11 } 0 0xB7D5208D#32) (fun t => (t.bufGet 0, t.step)) = some (0x728B09D8#32, Code.m1) := by decide
theorem test_m0_K8 :
    after .m0 (State.setBuf { bare with loop := 3#11 } 0 0x00000010#32) (fun t => (t.bufGet 0, t.step)) = some (0xFFFFF44C#32, Code.m1) := by decide
theorem test_m1_K10 :
    after .m1 (State.setBuf { bare with data := 0x01234567#32, loop := 1#11 } 1 0x94F98ABB#32) (fun t => (t.bufGet 1, t.step)) = some (0x1B4D47CE#32, Code.m2) := by decide
theorem test_m1_K12 :
    after .m1 (State.setBuf { bare with loop := 1#11 } 1 0x95DACFDC#32) (fun t => (t.bufGet 1, t.step)) = some (0x6A253024#32, Code.m2) := by decide
theorem test_m2_K13 :
    after .m2 (State.setBuf { bare with data := 0x01234567#32 } 2 0x94F98ABB#32) (fun t => (t.bufGet 2, t.step)) = some (0x95DACFDC#32, Code.m3) := by decide
theorem test_m3_K15 :
    after .m3 (State.setBuf { bare with data := 0x01234567#32, loop := 1#11 } 3 0x94F98ABB#32) (fun t => (t.bufGet 3, t.step)) = some (0xCC6F44FB#32, Code.m9) := by decide
theorem test_m3_K17 :
    after .m3 (State.setBuf { bare with data := 0xFFFFFFFF#32, loop := 9#11 } 3 0x00000000#32) (fun t => (t.bufGet 3, t.step)) = some (0x4FE1DA6D#32, Code.m9) := by decide
theorem test_m9_K22 :
    after .m9 (State.setBuf { bare with dataLast := 0x7FFFFFFF#32, data := 0x80000000#32, loop := 2#11 } 9 0x00000010#32) (fun t => (t.bufGet 9, t.step)) = some (0x00000008#32, Code.m4) := by decide
theorem test_m9_K19 :
    after .m9 (State.setBuf { bare with dataLast := 0x01234567#32, data := 0x01234567#32, loop := 1#11 } 9 0x94F98ABB#32) (fun t => (t.bufGet 9, t.step)) = some (0x961CD022#32, Code.m4) := by decide
theorem test_m4_K25 :
    after .m4 (State.setBuf { bare with dataLast := 0x01234567#32, data := 0x01234567#32 } 4 0x94F98ABB#32) (fun t => (t.rotr5, t.bufGet 4, t.step)) = some (0xCE02468A#32, 0x62FBD145#32, Code.m7) := by decide
theorem test_m4_K26 :
    after .m4 (State.setBuf { bare with dataLast := 0xABCDEF00#32, data := 0x12345678#32 } 4 0x00000100#32) (fun t => (t.rotr5, t.bufGet 4)) = some (0x12345678#32, 0x12345778#32) := by decide
theorem test_m7_K28 :
    after .m7 (State.setBuf { bare with dataLast := 0x01234567#32, data := 0x01234567#32, loop := 1#11 } 7 0x94F98ABB#32) (fun t => (t.bufGet 7, t.step)) = some (0xA6A3E772#32, Code.m6) := by decide
theorem test_m7_K30 :
    after .m7 (State.setBuf { bare with dataLast := 0x00000013#32, loop := 3#11 } 7 0x00000005#32) (fun t => (t.bufGet 7, t.step)) = some (0xFFFFFFF1#32, Code.m6) := by decide
theorem test_m6_K35 :
    after .m6 (State.setBuf (State.setBuf (State.setBuf { bare with data := 0x7FFFFFFF#32, loop := 1008#11 } 3 0x80000000#32) 4 0x00000001#32) 6 0x80000000#32) (fun t => (t.bufGet 6, t.step)) = some (0x800003EF#32, Code.m5) := by decide
theorem test_m6_K33 :
    after .m6 (State.setBuf (State.setBuf (State.setBuf { bare with data := 0x00000050#32, loop := 9#11 } 3 0x00000100#32) 4 0x00000200#32) 6 0x00000050#32) (fun t => (t.bufGet 6, t.step)) = some (0x00000200#32, Code.m5) := by decide
theorem test_m5_K38 :
    after .m5 (State.setBuf { bare with dataLast := 0x9F5ABF18#32, data := 0x3D9238C9#32 } 5 0x35778F3A#32) (fun t => (t.rotl2, t.bufGet 5, t.step)) = some (0xC649EC91#32, 0xFBC17BCB#32, Code.m8) := by decide
theorem test_m5_K39 :
    after .m5 { bare with dataLast := 0xF8000000#32, data := 0x80000001#32 } (fun t => (t.rotl2, t.bufGet 5)) = some (0xC0000000#32, 0xC0000000#32) := by decide
theorem test_m8_K41 :
    after .m8 (State.setBuf { bare with dataLast := 0x9F5ABF18#32, data := 0x3D9238C9#32, loop := 3#11 } 8 0xA8C13FD5#32) (fun t => (t.bufGet 8, t.step)) = some (0x18F958A4#32, Code.term) := by decide
theorem test_m8_K40 :
    after .m8 (State.setBuf { bare with dataLast := 0x01234567#32, data := 0x01234567#32, loop := 1#11 } 8 0x94F98ABB#32) (fun t => (t.bufGet 8, t.step)) = some (0x1B4D47CE#32, Code.term) := by decide
theorem test_term_K43 :
    after .term { bare with loop := 1007#11, region := [(4028, 0x5D#8), (4029, 0x5A#8), (4030, 0xF4#8), (4031, 0xA6#8)] } (fun t => (t.dataNext, t.step, t.reads)) = some (0x5D5AF4A6#32, Code.x15, [4028#12]) := by decide
theorem test_term_K44 :
    after .term { bare with loop := 1008#11, dataNext := 0x5D5AF4A6#32 } (fun t => (t.dataNext, t.step, t.reads)) = some (0x5D5AF4A6#32, Code.finit, []) := by decide
theorem test_x15_E2 :
    after .x15 (State.setBuf { bare with data := 0x9F5ABF18#32, dataNext := 0x3D9238C9#32, rotl2 := 0x9F5ABF18#32, loop := 2#11 } 15 0xA8C13FD5#32) (fun t => (t.bufGet 15, t.step)) = some (0x38371591#32, Code.x14) := by decide
theorem test_x15_E3 :
    after .x15 (State.setBuf { bare with loop := 1#11 } 15 0x95DACFDC#32) (fun t => (t.bufGet 15, t.step)) = some (0x95DACFDC#32, Code.x14) := by decide
theorem test_x14_E5 :
    after .x14 (State.setBuf { bare with data := 0x9F5ABF18#32, dataNext := 0x3D9238C9#32, rotr5 := 0x313EB57E#32, loop := 2#11 } 14 0xB68224B1#32) (fun t => (t.bufGet 14, t.step)) = some (0x4CCC11C0#32, Code.x13) := by decide
theorem test_x14_E6 :
    after .x14 (State.setBuf { bare with data := 0x00000020#32, dataNext := 0x00000007#32, rotr5 := 0x00000005#32, loop := 4#11 } 14 0x00000003#32) (fun t => (t.bufGet 14, t.step)) = some (0x0000006F#32, Code.x13) := by decide
theorem test_x13_E7 :
    after .x13 (State.setBuf { bare with data := 0x01234567#32, dataNext := 0x9F5ABF18#32 } 13 0x94F98ABB#32) (fun t => (t.bufGet 13, t.step)) = some (0xBDBAE9E4#32, Code.x10) := by decide
theorem test_x13_E8 :
    after .x13 (State.setBuf { bare with data := 0x00000020#32, dataNext := 0x00000040#32 } 13 0xFFFFFFFF#32) (fun t => (t.bufGet 13, t.step)) = some (0x0000005F#32, Code.x10) := by decide
theorem test_x10_E10 :
    after .x10 (State.setBuf { bare with data := 0x01234567#32, dataNext := 0x9F5ABF18#32, loop := 1#11 } 10 0x94F98ABB#32) (fun t => (t.bufGet 10, t.step)) = some (0x81803A43#32, Code.x11) := by decide
theorem test_x10_E12 :
    after .x10 (State.setBuf { bare with data := 0x00000001#32, loop := 3#11 } 10 0x00000004#32) (fun t => (t.bufGet 10, t.step)) = some (0xFFFFFFF1#32, Code.x11) := by decide
theorem test_x11_E13 :
    after .x11 (State.setBuf { bare with data := 0x01234567#32, dataNext := 0x9F5ABF18#32, loop := 1#11 } 11 0x94F98ABB#32) (fun t => (t.bufGet 11, t.step)) = some (0x58576543#32, Code.x12) := by decide
theorem test_x12_E15 :
    after .x12 (State.setBuf (State.setBuf { bare with data := 0x01234567#32 } 8 0x1B4D47CE#32) 12 0x94F98ABB#32) (fun t => (t.bufGet 12, t.step)) = some (0xAF678D64#32, Code.fetch) := by decide
theorem test_x12_E17 :
    after .x12 (State.setBuf { bare with data := 0x00000002#32 } 12 0xFFFFFFFF#32) (fun t => (t.bufGet 12, t.step)) = some (0x00000001#32, Code.fetch) := by decide
theorem test_finit_FN1 :
    after .finit (State.setBuf { bare with loop := 1008#11 } 0 0x728B09D8#32) (fun t => (t.cbGet 0, t.cbGet 3, t.loop, t.step)) = some (0x728B09D8#32, 0x728B09D8#32, 0#11, Code.f0) := by decide
theorem test_f0_FN3 :
    after .f0 (State.setCb (State.setBuf { bare with loop := 15#11 } 15 0xAF3E2FD0#32) 0 0xBB0B26B3#32) (fun t => (t.fdata, t.tmp, t.cbGet 0, t.step)) = some (0xAF3E2FD0#32, 0xEADBD5F1#32, 0xEADBD5F1#32, Code.f1) := by decide
theorem test_f0_FN4 :
    after .f0 (State.setCb (State.setBuf { bare with loop := 3#11 } 3 0x80000020#32) 0 0x80000000#32) (fun t => (t.fdata, t.tmp, t.cbGet 0)) = some (0x80000020#32, 0x00000020#32, 0x00000020#32) := by decide
theorem test_f1_FN5 :
    after .f1 (State.setCb { bare with fdata := 0x728B09D8#32, tmp := 0xFD94E24A#32 } 1 0x728B09D8#32) (fun t => (t.cbGet 1, t.step)) = some (0xE51613B0#32, Code.f2) := by decide
theorem test_f1_FN7 :
    after .f1 (State.setCb { bare with fdata := 0x00000005#32, tmp := 0x00000005#32, loop := 2#11 } 1 0x00000010#32) (fun t => (t.cbGet 1, t.step)) = some (0xFFFFFFB0#32, Code.f2) := by decide
theorem test_f2_FN11 :
    after .f2 (State.setCb { bare with fdata := 0xCF0D684B#32, loop := 3#11 } 2 0x2CD9C323#32) (fun t => (t.cbGet 2, t.step)) = some (0xFBE72B6E#32, Code.f3) := by decide
theorem test_f2_FN13 :
    after .f2 (State.setCb { bare with fdata := 0x45C3D3B9#32, loop := 9#11 } 2 0xA59B01B1#32) (fun t => (t.cbGet 2, t.step)) = some (0xBEE55994#32, Code.f3) := by decide
theorem test_f3_FN15 :
    after .f3 (State.setCb { bare with fdata := 0x0145350B#32, loop := 2#11 } 3 0x9F108B2E#32) (fun t => (t.cbGet 3, t.loop, t.step)) = some (0x9E55BE25#32, 3#11, Code.f0) := by decide
theorem test_f3_FN16 :
    after .f3 (State.setCb { bare with fdata := 0xAF3E2FD0#32, loop := 15#11 } 3 0x69794FCE#32) (fun t => (t.cbGet 3, t.loop, t.step)) = some (0x2A17E342#32, 15#11, Code.fsum) := by decide
theorem test_fsum_FN19 :
    after .fsum (State.setCb (State.setCb (State.setCb (State.setCb bare 0 0xEADBD5F1#32) 1 0x7F5710E2#32) 2 0xF6001011#32) 3 0x2A17E342#32) (fun t => (t.chkHi, t.chkLo, t.done, t.step)) = some (0x0093#16, 0xDC17F353#32, true, Code.idle) := by decide
theorem test_fsum_FN20 :
    after .fsum (State.setCb (State.setCb (State.setCb bare 0 0x12345678#32) 2 0x0F0F0F0F#32) 3 0xF0F0F0F0#32) (fun t => (t.chkHi, t.chkLo)) = some (0x9881#16, 0xFFFFFFFF#32) := by decide

/-! ### Host operations; the number is the line of V-HOST in spec/95_test_vectors.md -/

theorem test_idle_changes_nothing_R210 : after .idle bare id = some bare := by decide
theorem test_start_line41_accepted :
    after (.start 1#32) { bare with done := true, seed := 0x91#8 } (fun t => (t.done, t.step, t.seed)) =
      some (false, Code.init, 0x91#8) := by decide
theorem test_start_line10_ignored_with_order_3 :
    after (.start 1#32) { bare with order := 3#2, chkLo := 7#32 } (fun t => (t.step, t.busy, t.chkLo)) =
      some (Code.idle, false, 7#32) := by decide
theorem test_nopctrl_line15 : after (.nopctrl 0xFFFFFFFE#32) bare id = some bare := by decide
theorem test_rdctrl_line5 : after .rdctrl { bare with done := true } State.replies = some [0#32] := by decide
theorem test_rdstatus_line18_busy : after .rdstatus { bare with step := Code.init } State.replies = some [1#32] := by decide
theorem test_rdstatus_line31_done : after .rdstatus { bare with done := true } (fun t => (t.replies, t.done)) =
    some ([2#32], true) := by decide
theorem test_wrseed_line13 : after (.wrseed 0x0000013F#32) bare State.seed = some 0x3F#8 := by decide
theorem test_wrseed_line21_ignored : after (.wrseed 0x91#32) { bare with seed := 0x3F#8, step := Code.m5 } State.seed =
    some 0x3F#8 := by decide
theorem test_rdseed_line14 : after .rdseed { bare with seed := 0x3F#8 } State.replies = some [0x3F#32] := by decide
theorem test_wrorder_line8 : after (.wrorder 7#32) bare State.order = some 3#2 := by decide
theorem test_wrorder_line23_ignored : after (.wrorder 2#32) { bare with step := Code.m5 } State.order = some 0#2 := by
  decide
theorem test_rdorder_line9 : after .rdorder { bare with order := 3#2 } State.replies = some [3#32] := by decide
theorem test_rdchkhi_line29 : after .rdchkhi { bare with done := true, chkHi := 0x2982#16 } State.replies =
    some [0x00002982#32] := by decide
theorem test_rdchklo_line30 : after .rdchklo { bare with done := true, chkLo := 0xAD8C201D#32 } State.replies =
    some [0xAD8C201D#32] := by decide
/-- 10_state.md R33: with `DONE = 0` the datum is a fresh free value, whatever the register holds. -/
theorem test_rdchklo_before_done_R33 : after .rdchklo { bare with chkLo := 5#32, draws := 40 } State.replies =
    some [Config.freeValue 40] := by rfl
theorem test_write_status_line32 : stepped { bare with done := true, inputs := [.host (.write 1 0#32)] } State.done =
    some true := by decide
theorem test_read_register_6_line37 : stepped { bare with inputs := [.host (.read 6)] } State.replies = some [0#32] := by
  decide
theorem test_reset_line54 :
    stepped { bare with seed := 0x91#8, step := Code.x14, inputs := [.reset] } (fun t => (t.step, t.seed, t.done)) =
      some (Code.idle, 0x00#8, false) := by decide

/-! ### Primitives and byte order: rows MX, T, U, MR, A of spec/95_test_vectors.md -/

theorem test_mix_MX7_MX13_MX19 : mix 0x12345678#32 0#32 0x10#32 = 0xDCBA9881#32 ∧
    mix 0x281#32 0x663D81#32 1#32 = 0x281#32 ∧ mix 1#32 0xFFFFFFFF#32 0#32 = 1#32 := by decide
theorem test_rotates_T5_T6_T1 : rotr32 0x12345678#32 31#5 = 0x2468ACF0#32 ∧ rotl32 0x12345678#32 31#5 = 0x091A2B3C#32 ∧
    rotr32 0x80000001#32 1#5 = 0xC0000000#32 ∧ rotl32 0x12345678#32 0#5 = 0x12345678#32 := by decide
theorem test_mul64_U1 : mul64 0xFFFFFFFF#32 0xFFFFFFFF#32 = 0xFFFFFFFE00000001#64 := by decide
theorem test_ltu_A9_A10 : ltu 0x7FFFFFFF#32 0x80000000#32 = true ∧ ltu 0x80000000#32 0x7FFFFFFF#32 = false := by decide

/-- A region with the bytes `11 22 33 44` at offset 4092, read under `order`. -/
def topWord (order : BitVec 2) : State :=
  { bare with order := order, region := [(4092, 0x11#8), (4093, 0x22#8), (4094, 0x33#8), (4095, 0x44#8)] }

theorem test_word_MR1 : (topWord 0#2).wordAt 4092#12 = 0x11223344#32 := by decide
theorem test_word_MR2 : (topWord 1#2).wordAt 4092#12 = 0x22114433#32 := by decide
theorem test_word_MR3 : (topWord 2#2).wordAt 4092#12 = 0x44332211#32 := by decide
theorem test_word_MR9_MR11 :
    State.wordAt { bare with regionLen := 10, region := [(8, 0xAA#8), (9, 0xBB#8)] } 8#12 = 0xAABB0000#32 ∧
    State.wordAt { bare with regionLen := 10, order := 2#2, region := [(8, 0xAA#8), (9, 0xBB#8)] } 8#12 =
      0x0000BBAA#32 := by decide

/-! ### Witnesses: for each statement with hypotheses, states and operands that meet them -/

/-- A state in the middle of iteration 1, at `M7`: the whole invariant holds of it. -/
def midRun : State :=
  { bare with
    step := Code.m7, loop := 1#11, data := 0x01234567#32, dataLast := 0x01234567#32, rotr5 := 0xCE02468A#32,
    region := [(0, 0x01#8), (1, 0x23#8), (2, 0x45#8), (3, 0x67#8)] }

theorem witness_midRun_inv : midRun.Inv where
  codeLegal := by unfold State.codeLegal; decide
  flagsApart := by unfold State.flagsApart; decide
  sourceBound := by unfold State.sourceBound; decide
  regionCanonical := by unfold State.regionCanonical; decide
  loopInRange := by constructor <;> decide
  carriedWords := by constructor <;> decide

theorem witness_done_inv : State.Inv { bare with done := true, chkLo := 5#32 } where
  codeLegal := by unfold State.codeLegal; decide
  flagsApart := by unfold State.flagsApart; decide
  sourceBound := by unfold State.sourceBound; decide
  regionCanonical := by unfold State.regionCanonical; decide
  loopInRange := by constructor <;> decide
  carriedWords := by constructor <;> decide

/-- EveryStepKeepsTheRunInvariant, at a state of a run and a step that completes. -/
theorem witness_EveryStepKeepsTheRunInvariant : midRun.Inv ∧ stepped midRun State.step = some Code.m6 :=
  ⟨witness_midRun_inv, by decide⟩

/-- RotatesMoveEveryBit and RotatesAreInverseAndKeepTheOnes: the boundary bits and the boundary amounts. -/
theorem witness_rotates : (0 < 32 ∧ 31 < 32) ∧ (1#5 ≠ 0#5 ∧ 31#5 ≠ 0#5) := by decide

theorem witness_MixSubstitutesZeroAndIsNotCommutative : (1#32 : Word) ≠ 0#32 ∧ 0xFFFFFFFF#32 ≠ 0#32 := by decide

/-- WordsAssembleByTheByteOrder: the highest aligned offset under each policy. -/
theorem witness_WordsAssembleByTheByteOrder :
    (4092#12 : Offset).toNat % 4 = 0 ∧ (topWord 0#2).order ≠ 3#2 ∧
    (∀ order : BitVec 2, order ≠ 3#2 →
      (topWord order).readByte 4092#12 = 0x11#8 ∧ (topWord order).readByte (4092#12 + 1#12) = 0x22#8 ∧
      (topWord order).readByte (4092#12 + 2#12) = 0x33#8 ∧ (topWord order).readByte (4092#12 + 3#12) = 0x44#8) := by
  decide

/-- PlatformStoreWritesOneRegionByte: the last backed offset, and one beyond a short region. -/
theorem witness_PlatformStoreWritesOneRegionByte :
    ∀ p ∈ [(4096, 4095#12), (10, 10#12)],
      State.inputs { bare with regionLen := p.1, inputs := [.store p.2 0x5A#8] } = .store p.2 0x5A#8 :: [] ∧
      State.busy { bare with regionLen := p.1, inputs := [.store p.2 0x5A#8] } = false ∧
      Memory.wf p.1 (State.region { bare with regionLen := p.1, inputs := [.store p.2 0x5A#8] }) := by decide

/-- A state of a run with a platform store waiting. -/
def storeWhileBusy (o : Offset) (b : Byte) : State := { midRun with regionLen := 10, inputs := [.store o b] }

/-- RegionChangeWhileBusyIsRefused: a changing store, one of the byte already there, one not backed. -/
theorem witness_RegionChangeWhileBusyIsRefused :
    (∀ o b, (storeWhileBusy o b).inputs = .store o b :: [] ∧ (storeWhileBusy o b).busy = true ∧
      (storeWhileBusy o b).regionCanonical) ∧
    ((9#12 : Offset).toNat < 10 ∧ (storeWhileBusy 9#12 0x5A#8).readByte 9#12 ≠ 0x5A#8) ∧
    (storeWhileBusy 0#12 0x01#8).readByte 0#12 = 0x01#8 ∧ ¬ (10#12 : Offset).toNat < 10 := by
  refine ⟨fun o b => ⟨rfl, rfl, ?_⟩, by decide, by decide, by decide⟩
  show Memory.wf 10 [(0, 0x01#8), (1, 0x23#8), (2, 0x45#8), (3, 0x67#8)]
  decide

theorem witness_DecodeAndEncodeAgree : (Instr.start 1#32).wf = true ∧ (Instr.nopctrl 0#32).wf = true ∧
    Instr.fsum.wf = true ∧ decode (.step 0b11001#5) = .ok .fsum ∧ decode (.host (.read 5)) = .ok .rdchklo := by decide

/-- ReservedStepCodesFault: the lowest and the highest reserved code, with nothing waiting and on a turn; both fault. -/
theorem witness_ReservedStepCodesFault :
    25 < (State.step { bare with step := 26#5 }).toNat ∧ State.inputs { bare with step := 26#5 } = [] ∧
    25 < (State.step { bare with step := 31#5, inputs := [.tick] }).toNat ∧
    (∃ rest, State.inputs { bare with step := 31#5, inputs := [.tick] } = .tick :: rest) ∧
    step { bare with step := 26#5 } = .fault (.reservedStepCode 26#5) := by
  refine ⟨by decide, by decide, by decide, ⟨[], rfl⟩, rfl⟩

/-- StepRunsTheDecodedInstruction: its three clauses. -/
theorem witness_StepRunsTheDecodedInstruction :
    (bare.inputs = [] ∧ decode (.step bare.step) = .ok .idle) ∧
    (State.inputs { midRun with inputs := [.tick, .reset] } = [.tick, .reset] ∧
      decode (.step midRun.step) = .ok .m7) ∧
    (State.inputs { midRun with inputs := [.host (.read 1), .tick] } = [.host (.read 1), .tick] ∧
      decode (.host (.read 1)) = .ok .rdstatus) := by decide

/-- AccessesOutsideTheTableDoNothing: each register named, the lowest number above 5. -/
theorem witness_AccessesOutsideTheTableDoNothing :
    (∀ reg ∈ [1, 4, 5, 6], (reg = 1 ∨ reg = 4 ∨ reg = 5 ∨ 5 < reg) ∧
      State.inputs { bare with inputs := [.host (.write reg 7#32)] } = [.host (.write reg 7#32)]) ∧
    5 < 6 ∧ State.inputs { bare with inputs := [.host (.read 6)] } = [.host (.read 6)] := by decide

theorem witness_ResetAssignsTheStatedValues :
    State.inputs { midRun with inputs := [.reset, .tick] } = .reset :: [.tick] := by decide

theorem witness_SeedAndOrderAreFixedWhileBusy :
    midRun.busy = true ∧ (∀ rest, midRun.inputs ≠ .reset :: rest) ∧ ∃ t, step midRun = .next t :=
  ⟨by decide, (fun _ h => nomatch h), _, rfl⟩

/-- ResultHoldsUntilStartOrReset: a state with a result and an ignored `START` coming, and `FSUM` setting `DONE`. -/
theorem witness_ResultHoldsUntilStartOrReset :
    (State.Inv { bare with done := true, chkLo := 5#32 } ∧ State.done { bare with done := true, chkLo := 5#32 } = true ∧
      (¬ State.endsResult { bare with done := true, chkLo := 5#32 }) ∧
      ∃ t, step { bare with done := true, chkLo := 5#32 } = .next t) ∧
    (State.done { bare with step := Code.fsum } = false ∧ stepped { bare with step := Code.fsum } State.done = some true) := by
  refine ⟨⟨witness_done_inv, rfl, ?_, _, rfl⟩, by decide, by decide⟩
  rintro (⟨_, h⟩ | ⟨_, _, h, _⟩) <;> cases h

/-- ComputationIsChecksum48, ComputationTakes18205Steps, ComputationReadsEveryWordTwiceInOrder: a state about to start
under each bound policy, and the boundary counts. -/
theorem witness_AboutToStart (order : BitVec 2) (h : order ≠ 3#2) :
    State.AboutToStart { bare with order := order, inputs := [.host (.write 0 0xFFFFFFFF#32)] } 0xFFFFFFFF#32 :=
  ⟨rfl, h, by decide, rfl⟩
theorem witness_run_bounds : 0 ≤ 18205 ∧ 18205 ≤ 18205 ∧ 0 ≤ 1007 ∧ 1007 ≤ 1007 ∧ 0 ∈ Ref.readOffsets :=
  ⟨by decide, by decide, by decide, by decide, List.mem_cons_self⟩

/-- SuccessorsFollowTheTable: both choices of `TERM` and of `F3`, a plain step, and an accepted `START`. -/
theorem witness_SuccessorsFollowTheTable :
    Ref.successor .term 1008 = some .finit ∧ Ref.successor .term 1007 = some .x15 ∧
    Ref.successor .f3 15 = some .fsum ∧ Ref.successor .f3 14 = some .f0 ∧ Ref.successor .m3 1 = some .m9 ∧
    bare.step = Code.idle ∧ bare.order ≠ 3#2 := by decide

theorem witness_StepsWriteOnlyTheirBufWords : Ref.writesBuf .m0 1 = false ∧ Ref.writesBuf .x15 0 = false ∧
    Ref.writesBuf .fsum 15 = false ∧ Ref.writesBuf (.start 1#32) 0 = false := by decide

theorem witness_OnlyThreeStepsReadTheRegionAndNoneWritesIt :
    Instr.m0 ≠ .init ∧ Instr.m0 ≠ .fetch ∧ Instr.m0 ≠ .term := by decide

theorem witness_HostOperationsDoNotDisturbAComputation :
    encode (.wrseed 1#32) = .host (.write 2 1#32) ∧ encode .rdchklo = .host (.read 5) ∧ midRun.busy = true := by decide

/-- InitFillsBufFromSeedAndFirstWord, FetchAdvancesLoopAndDataWords, TermStopsAt1008OrReadsAhead: a Word Source bound,
`LOOP` at 0, 1023, 1008 and 1007. -/
theorem witness_reading_steps : bare.order ≠ 3#2 ∧ bare.loop.toNat ≤ 1023 ∧
    (State.loop { bare with loop := 1023#11 }).toNat ≤ 1023 ∧ (State.loop { bare with loop := 1008#11 }).toNat = 1008 ∧
    (State.loop { bare with loop := 1007#11 }).toNat ≠ 1008 ∧ (State.loop { bare with loop := 1023#11 }).toNat ≠ 1008 := by
  decide

theorem witness_WordReadsOutsideARunComplete : (State.loop { bare with loop := 1024#11 }).toNat ≠ 1008 ∧
    State.order { bare with order := 3#2 } = 3#2 := by decide

/-- StartRunsOnlyWhenIdleAndBound, SeedAndOrderWritesKeepTheirFieldWhileIdle: idle and bound, idle and unbound, busy. -/
theorem witness_start_and_writes : (bare.step = Code.idle ∧ bare.order ≠ 3#2) ∧
    ¬ (State.step { bare with order := 3#2 } = Code.idle ∧ State.order { bare with order := 3#2 } ≠ 3#2) ∧
    midRun.step ≠ Code.idle := by decide

/-- StatusReadReturnsDoneAndBusy (its last clause) and ResultReadsReturnTheChecksumOnceDone (both cases). -/
theorem witness_status_and_result : midRun.Inv ∧ midRun.done = false ∧
    State.done { bare with done := true, chkLo := 5#32 } = true :=
  ⟨witness_midRun_inv, rfl, rfl⟩

end Sys2Proof.Tests
end

section
/-! Rules about the operations that the state family's statements share: the rotations on naturals, the decoder
inverted, what each instruction and each event can do. -/

namespace Sys2Proof.Machine

/-! ### The rotations (40_datapath_primitives.md R125, R126) -/

/-- Cutting `v` above bit `s` and shifting the low part up is a shift in 32 bits. -/
theorem mod_two_pow_mul (v : Nat) {a b : Nat} (h : a + b = 32) : v * 2 ^ b % 2 ^ 32 = v % 2 ^ a * 2 ^ b := by
  rw [← h, Nat.pow_add, Nat.mul_mod_mul_right]

/-- The two parts of a rotated word do not overlap, so their OR is their sum. -/
theorem shiftRight_or_shiftLeft_toNat (v : Word) {a b : Nat} (h : a + b = 32) :
    (v >>> a ||| v <<< b).toNat = v.toNat / 2 ^ a + v.toNat % 2 ^ a * 2 ^ b := by
  have hlow : v.toNat / 2 ^ a < 2 ^ b := by
    rw [Nat.div_lt_iff_lt_mul (Nat.two_pow_pos a), ← Nat.pow_add, Nat.add_comm b a, h]
    exact v.isLt
  rw [BitVec.toNat_or, BitVec.toNat_ushiftRight, BitVec.toNat_shiftLeft, Nat.shiftRight_eq_div_pow,
    Nat.shiftLeft_eq, mod_two_pow_mul _ h, Nat.or_comm, Nat.mul_comm, ← Nat.two_pow_add_eq_or_of_lt hlow,
    Nat.add_comm]

theorem rotr32_toNat (v : Word) (s : BitVec 5) : (rotr32 v s).toNat = Ref.rotr v.toNat s.toNat := by
  unfold rotr32 Ref.rotr
  by_cases hs : s = 0#5
  · simp [hs]
  · have hs' : s.toNat ≠ 0 := fun e => hs (BitVec.eq_of_toNat_eq e)
    rw [if_neg hs, if_neg hs']
    exact shiftRight_or_shiftLeft_toNat v (by omega)

theorem rotl32_toNat (v : Word) (s : BitVec 5) : (rotl32 v s).toNat = Ref.rotl v.toNat s.toNat := by
  unfold rotl32 Ref.rotl
  by_cases hs : s = 0#5
  · simp [hs]
  · have hs' : s.toNat ≠ 0 := fun e => hs (BitVec.eq_of_toNat_eq e)
    rw [if_neg hs, if_neg hs', BitVec.or_comm, shiftRight_or_shiftLeft_toNat v (by omega), Nat.add_comm]

@[simp] theorem Ref.bits_low5 (v : Word) : Ref.bits v.toNat 4 0 = (lo5 v).toNat := by
  simp [Ref.bits]

@[simp] theorem Ref.bits_high5 (v : Word) : Ref.bits v.toNat 31 27 = (hi5 v).toNat := by
  have := v.isLt
  simp only [Ref.bits, hi5_toNat]
  omega

/-! ### The decoder inverted -/

theorem encode_of_decodeStep {code : BitVec 5} {i : Instr} (h : decodeStep code = .ok i) :
    encode i = .step code := by
  unfold decodeStep at h
  split at h <;> cases h
  all_goals rename_i hc; exact congrArg OpWord.step (BitVec.eq_of_toNat_eq hc.symm)

theorem encode_of_decodeHost {access : HostAccess} {i : Instr} (h : decodeHost access = .ok i) :
    encode i = .host access := by
  unfold decodeHost at h
  split at h
  case h_1 => split at h <;> cases h <;> rfl
  all_goals cases h
  all_goals rfl

/-- Only a write of register 0 with bit 0 set is a `START` (30_encoding.md R97). -/
theorem startBit_of_decodeHost {access : HostAccess} {wdata : Word} (h : decodeHost access = .ok (.start wdata)) :
    access = .write Reg.ctrl wdata ∧ wdata.getLsbD 0 = true := by
  have ha : access = .write Reg.ctrl wdata := (OpWord.host.inj (encode_of_decodeHost h)).symm
  subst ha
  exact ⟨rfl, by simpa [decodeHost, Reg.ctrl] using h⟩

/-! ### What each instruction can do -/

/-- The two outcomes of the loop bound check (42_mixer_core.md R162). -/
theorem execTerm_cases (s : State) :
    (s.loop = niter ∧ execTerm s = .next (s.goto Code.finit)) ∨
      (s.loop ≠ niter ∧ execTerm s = .next
        ({ s.noteRead (termOffset s.loop) with dataNext := s.wordAt (termOffset s.loop) }.goto Code.x15)) := by
  by_cases h : s.loop = niter
  · exact .inl ⟨h, by simp [execTerm, h]⟩
  · exact .inr ⟨h, by simp [execTerm, h]⟩

/-- `START` is accepted when idle with a Word Source bound, else it does nothing (45_host_operations.md R201, R202). -/
theorem execStart_cases (wdata : Word) (s : State) :
    (s.step = Code.idle ∧ s.order ≠ 3#2 ∧
        execStart wdata s = .next ({ s.dropResult with done := false }.goto Code.init)) ∨
      execStart wdata s = .next s := by
  by_cases h : s.busy = false ∧ s.unbound = false
  · exact .inl ⟨(State.not_busy_iff s).1 h.1, (State.bound_iff s).1 h.2, by simp [execStart, h]⟩
  · exact .inr (by simp_all [execStart])

theorem exec_completes (i : Instr) (s : State) : ∃ t, exec i s = .next t := by
  cases i <;> exact ⟨_, rfl⟩

/-- What a sequencer step leaves as it was: the parameters and the region always, `DONE` but at `FSUM`, the observed
reads but at the three reading steps. -/
structure SequencerFrame (i : Instr) (s t : State) : Prop where
  seed : t.seed = s.seed
  order : t.order = s.order
  region : t.region = s.region
  regionLen : t.regionLen = s.regionLen
  done : i ≠ .fsum → t.done = s.done
  reads : i ≠ .init → i ≠ .fetch → i ≠ .term → t.reads = s.reads

theorem SequencerFrame.of_exec {i : Instr} {code : BitVec 5} {s t : State} (hi : encode i = .step code)
    (h : exec i s = .next t) : SequencerFrame i s t := by
  cases i with
  | term =>
    rcases execTerm_cases s with ⟨_, e⟩ | ⟨_, e⟩ <;> cases e.symm.trans h <;>
      exact ⟨rfl, rfl, rfl, rfl, fun _ => rfl, fun _ _ hterm => absurd rfl hterm⟩
  | f3 =>
    cases h
    rcases State.nextPass_cases (s.setCb 3 _) with ⟨_, e⟩ | ⟨_, e⟩ <;> rw [e] <;>
      exact ⟨rfl, rfl, rfl, rfl, fun _ => rfl, fun _ _ _ => rfl⟩
  | init => cases h; exact ⟨rfl, rfl, rfl, rfl, fun _ => rfl, fun hinit _ _ => absurd rfl hinit⟩
  | fetch => cases h; exact ⟨rfl, rfl, rfl, rfl, fun _ => rfl, fun _ hfetch _ => absurd rfl hfetch⟩
  | fsum => cases h; exact ⟨rfl, rfl, rfl, rfl, fun hfsum => absurd rfl hfsum, fun _ _ _ => rfl⟩
  | idle | m0 | m1 | m2 | m3 | m9 | m4 | m7 | m6 | m5 | m8 | x15 | x14 | x13 | x10 | x11 | x12 | finit | f0 | f1
  | f2 => cases h; exact ⟨rfl, rfl, rfl, rfl, fun _ => rfl, fun _ _ _ => rfl⟩
  | start _ | nopctrl _ | rdctrl | rdstatus | wrseed _ | rdseed | wrorder _ | rdorder | rdchkhi | rdchklo =>
    cases hi

/-- All a host operation can do: return a datum or nothing, start a computation, write `SEED` or `ORDER` while idle. -/
inductive HostEffect (i : Instr) (s : State) : State → Prop where
  | observed (replies : List Word) (draws : Nat) : HostEffect i s { s with replies := replies, draws := draws }
  | started (wdata : Word) (hi : i = .start wdata) (idle : s.step = Code.idle) (bound : s.order ≠ 3#2) :
      HostEffect i s ({ s.dropResult with done := false }.goto Code.init)
  | written (seed : BitVec 8) (order : BitVec 2) (idle : s.step = Code.idle) :
      HostEffect i s { s with seed := seed, order := order }

theorem HostEffect.of_exec {i : Instr} {access : HostAccess} {s t : State} (hi : encode i = .host access)
    (h : exec i s = .next t) : HostEffect i s t := by
  cases i with
  | start wdata =>
    rcases execStart_cases wdata s with ⟨idle, bound, e⟩ | e <;> cases e.symm.trans h
    · exact .started wdata rfl idle bound
    · exact .observed s.replies s.draws
  | wrseed wdata =>
    cases h
    by_cases hb : s.busy = true
    · rw [if_pos hb]; exact .observed s.replies s.draws
    · rw [if_neg hb]; exact .written _ s.order (by simpa [State.busy] using hb)
  | wrorder wdata =>
    cases h
    by_cases hb : s.busy = true
    · rw [if_pos hb]; exact .observed s.replies s.draws
    · rw [if_neg hb]; exact .written s.seed _ (by simpa [State.busy] using hb)
  | rdchkhi | rdchklo =>
    cases h
    by_cases hd : s.done = true
    · rw [if_pos hd]; exact .observed _ s.draws
    · rw [if_neg hd]; exact .observed _ _
  | nopctrl _ | rdctrl | rdstatus | rdseed | rdorder => cases h; exact .observed _ s.draws
  | idle | init | fetch | m0 | m1 | m2 | m3 | m9 | m4 | m7 | m6 | m5 | m8 | term | x15 | x14 | x13 | x10 | x11
  | x12 | finit | f0 | f1 | f2 | f3 | fsum => cases hi

/-- Every completed instruction is a sequencer step within its frame or a host operation with one of its effects. -/
theorem exec_next_cases {i : Instr} {s t : State} (h : exec i s = .next t) :
    SequencerFrame i s t ∨ ∃ access, encode i = .host access ∧ HostEffect i s t := by
  cases hi : encode i with
  | step code => exact .inl (.of_exec hi h)
  | host access => exact .inr ⟨access, rfl, .of_exec hi h⟩

/-! ### What each event brings -/

theorem step_of_nothing_waiting {s : State} {i : Instr} (h : s.inputs = []) (hd : decode (.step s.step) = .ok i) :
    step s = exec i s := by
  simp only [step, fetch, h, hd]

theorem step_of_tick {s : State} {i : Instr} {rest : List Event} (h : s.inputs = .tick :: rest)
    (hd : decode (.step s.step) = .ok i) : step s = exec i { s with inputs := rest } := by
  simp only [step, fetch, h, hd]

theorem step_of_host {s : State} {i : Instr} {access : HostAccess} {rest : List Event}
    (h : s.inputs = .host access :: rest) (hd : decode (.host access) = .ok i) :
    step s = exec i { s with inputs := rest } := by
  simp only [step, fetch, h, hd]

theorem step_of_reset {s : State} {rest : List Event} (h : s.inputs = .reset :: rest) :
    step s = .next (hardReset { s with inputs := rest }) := by
  simp only [step, fetch, h]

/-- An access that is no operation changes the replies at most. -/
theorem nullAccess_eq (access : HostAccess) (s : State) :
    ∃ replies, nullAccess access s = { s with replies := replies } := by
  cases access with
  | write reg wdata => exact ⟨s.replies, rfl⟩
  | read reg => exact ⟨0#32 :: s.replies, rfl⟩

/-- A platform store that completes changes the region alone, and that only while idle. -/
theorem platformStore_next {o : Offset} {b : Byte} {s t : State} (h : platformStore o b s = .next t) :
    t = s ∨ (s.step = Code.idle ∧ t = { s with region := s.storedRegion o b }) := by
  rcases platformStore_cases o b s with ⟨hb, e⟩ | ⟨_, _, e⟩ | ⟨_, _, e⟩ <;> cases e.symm.trans h
  · exact .inr ⟨(State.not_busy_iff s).1 hb, rfl⟩
  · exact .inl rfl

end Sys2Proof.Machine
end

section
/-! The invariant of a run by phase of the computation: what it demands in the mixer and in a finalizer pass, what each
step establishes, and its preservation by every event. -/

namespace Sys2Proof.Machine

/-! ### The phases -/

/-- The clauses of the invariant that speak of the position of the sequencer. -/
structure State.InPhase (s : State) : Prop where
  codeLegal : s.codeLegal
  loopInRange : s.LoopInRange
  carriedWords : s.CarriedWords

theorem State.Inv.inPhase {s : State} (h : s.Inv) : s.InPhase := ⟨h.codeLegal, h.loopInRange, h.carriedWords⟩

/-- What the invariant demands at the steps `M0` to `X12`. -/
structure State.InMixer (s : State) : Prop where
  lo : Code.m0.toNat ≤ s.step.toNat
  hi : s.step.toNat ≤ Code.x12.toNat
  loop : 1 ≤ s.loop.toNat ∧ s.loop.toNat ≤ 1008
  loopExtension : Code.x15.toNat ≤ s.step.toNat → s.loop.toNat ≤ 1007
  data : s.data = s.wordNo (s.loop.toNat - 1)
  dataLast : s.dataLast = s.wordNo (s.loop.toNat - 2)
  dataNext : Code.x15.toNat ≤ s.step.toNat → s.dataNext = s.wordNo s.loop.toNat
  rotr5 : Code.m7.toNat ≤ s.step.toNat → s.rotr5.toNat = Ref.rotr s.data.toNat (Ref.bits s.dataLast.toNat 4 0)
  rotl2 : Code.m8.toNat ≤ s.step.toNat → s.rotl2.toNat = Ref.rotl s.data.toNat (Ref.bits s.dataLast.toNat 31 27)

theorem State.InPhase.inMixer {s : State} (h : s.InPhase) (lo : Code.m0.toNat ≤ s.step.toNat)
    (hi : s.step.toNat ≤ Code.x12.toNat) : s.InMixer where
  lo := lo
  hi := hi
  loop := by
    rcases Nat.lt_or_ge Code.term.toNat s.step.toNat with hx | hm
    · have := h.loopInRange.extension hx hi
      omega
    · exact h.loopInRange.core lo hm
  loopExtension hx := (h.loopInRange.extension hx hi).2
  data := h.carriedWords.data lo hi
  dataLast := h.carriedWords.dataLast lo hi
  dataNext hx := h.carriedWords.dataNext hx hi
  rotr5 hx := h.carriedWords.rotr5 hx hi
  rotl2 hx := h.carriedWords.rotl2 hx hi

theorem State.InMixer.inPhase {s : State} (h : s.InMixer) : s.InPhase where
  codeLegal := h.hi.trans (by decide)
  loopInRange :=
    { fetch := fun e => absurd (e ▸ h.lo) (by decide)
      core := fun _ _ => h.loop
      extension := fun hx _ => ⟨h.loop.1, h.loopExtension hx⟩
      finit := fun e => absurd (e ▸ h.hi) (by decide)
      pass := fun hp _ => absurd (hp.trans h.hi) (by decide)
      fsum := fun e => absurd (e ▸ h.hi) (by decide) }
  carriedWords :=
    { fetch := fun e => absurd (e ▸ h.lo) (by decide)
      data := fun _ _ => h.data
      dataLast := fun _ _ => h.dataLast
      dataNext := fun hx _ => h.dataNext hx
      rotr5 := fun hx _ => h.rotr5 hx
      rotl2 := fun hx _ => h.rotl2 hx
      fdata := fun hp _ => absurd (hp.trans h.hi) (by decide)
      tmp := fun hp _ => absurd (hp.trans h.hi) (by decide) }

/-- What the invariant demands at the steps `F0` to `F3`. -/
structure State.InPass (s : State) : Prop where
  lo : Code.f0.toNat ≤ s.step.toNat
  hi : s.step.toNat ≤ Code.f3.toNat
  loop : s.loop.toNat ≤ 15
  fdata : Code.f1.toNat ≤ s.step.toNat → s.fdata = s.bufGet (Fin.ofNat 16 s.loop.toNat)
  tmp : Code.f1.toNat ≤ s.step.toNat → s.tmp = s.cbGet 0

theorem State.InPhase.inPass {s : State} (h : s.InPhase) (lo : Code.f0.toNat ≤ s.step.toNat)
    (hi : s.step.toNat ≤ Code.f3.toNat) : s.InPass where
  lo := lo
  hi := hi
  loop := h.loopInRange.pass lo hi
  fdata hp := h.carriedWords.fdata hp hi
  tmp hp := h.carriedWords.tmp hp hi

theorem State.InPass.inPhase {s : State} (h : s.InPass) : s.InPhase where
  codeLegal := h.hi.trans (by decide)
  loopInRange :=
    { fetch := fun e => absurd (e ▸ h.lo) (by decide)
      core := fun _ hm => absurd (h.lo.trans hm) (by decide)
      extension := fun _ hx => absurd (h.lo.trans hx) (by decide)
      finit := fun e => absurd (e ▸ h.lo) (by decide)
      pass := fun _ _ => h.loop
      fsum := fun e => absurd (e ▸ h.hi) (by decide) }
  carriedWords :=
    { fetch := fun e => absurd (e ▸ h.lo) (by decide)
      data := fun _ hx => absurd (h.lo.trans hx) (by decide)
      dataLast := fun _ hx => absurd (h.lo.trans hx) (by decide)
      dataNext := fun _ hx => absurd (h.lo.trans hx) (by decide)
      rotr5 := fun _ hx => absurd (h.lo.trans hx) (by decide)
      rotl2 := fun _ hx => absurd (h.lo.trans hx) (by decide)
      fdata := fun hp _ => h.fdata hp
      tmp := fun hp _ => h.tmp hp }

/-- The codes of `IDLE`, `INIT`, `FETCH`, `FINIT` and `FSUM`: legal, and in neither phase. -/
abbrev BetweenPhases (code : BitVec 5) : Prop :=
  code.toNat ≤ 25 ∧ (Code.m0.toNat ≤ code.toNat → ¬ code.toNat ≤ Code.x12.toNat) ∧
    (Code.f0.toNat ≤ code.toNat → ¬ code.toNat ≤ Code.f3.toNat)

/-- Outside the two phases only `FETCH`, `FINIT` and `FSUM` have a demand. -/
theorem State.InPhase.of_between {s : State} {code : BitVec 5} (hs : s.step = code) (h : BetweenPhases code)
    (fetch : code = Code.fetch → s.loop.toNat ≤ 1007 ∧ s.data = s.wordNo (s.loop.toNat - 1))
    (finit : code = Code.finit → s.loop.toNat = 1008) (fsum : code = Code.fsum → s.loop.toNat = 15) :
    s.InPhase := by
  subst hs
  obtain ⟨legal, mixer, pass⟩ := h
  exact
    { codeLegal := legal
      loopInRange :=
        { fetch := fun e => (fetch e).1
          core := fun lo hi => absurd (hi.trans (by decide)) (mixer lo)
          extension := fun lo hi => absurd hi (mixer (le_trans (by decide) lo))
          finit := finit
          pass := fun lo hi => absurd hi (pass lo)
          fsum := fsum }
      carriedWords :=
        { fetch := fun e => (fetch e).2
          data := fun lo hi => absurd hi (mixer lo)
          dataLast := fun lo hi => absurd hi (mixer lo)
          dataNext := fun lo hi => absurd hi (mixer (le_trans (by decide) lo))
          rotr5 := fun lo hi => absurd hi (mixer (le_trans (by decide) lo))
          rotl2 := fun lo hi => absurd hi (mixer (le_trans (by decide) lo))
          fdata := fun lo hi => absurd hi (pass (le_trans (by decide) lo))
          tmp := fun lo hi => absurd hi (pass (le_trans (by decide) lo)) } }

/-- While idle the position demands nothing. -/
theorem State.InPhase.of_idle {s : State} (h : s.step = Code.idle) : s.InPhase :=
  .of_between h (by decide) (fun e => absurd e (by decide)) (fun e => absurd e (by decide))
    (fun e => absurd e (by decide))

theorem State.InPhase.of_init {s : State} (h : s.step = Code.init) : s.InPhase :=
  .of_between h (by decide) (fun e => absurd e (by decide)) (fun e => absurd e (by decide))
    (fun e => absurd e (by decide))

theorem State.InPhase.of_fetch {s : State} (h : s.step = Code.fetch) (loop : s.loop.toNat ≤ 1007)
    (data : s.data = s.wordNo (s.loop.toNat - 1)) : s.InPhase :=
  .of_between h (by decide) (fun _ => ⟨loop, data⟩) (fun e => absurd e (by decide)) (fun e => absurd e (by decide))

theorem State.InPhase.of_finit {s : State} (h : s.step = Code.finit) (loop : s.loop.toNat = 1008) : s.InPhase :=
  .of_between h (by decide) (fun e => absurd e (by decide)) (fun _ => loop) (fun e => absurd e (by decide))

theorem State.InPhase.of_fsum {s : State} (h : s.step = Code.fsum) (loop : s.loop.toNat = 15) : s.InPhase :=
  .of_between h (by decide) (fun e => absurd e (by decide)) (fun e => absurd e (by decide)) (fun _ => loop)

/-! ### One lemma per step of the sequencer that does more than write a word and move on -/

theorem State.InPhase.of_execInit {s t : State} (bound : s.order ≠ 3#2) (h : exec .init s = .next t) : t.InPhase := by
  cases h
  refine .of_fetch rfl (Nat.zero_le _) (.symm ?_)
  exact State.wordNo_congr bound (by rfl) (fun _ => by rfl) 0

theorem State.InMixer.of_execFetch {s t : State} (bound : s.order ≠ 3#2) (hloop : s.loop.toNat ≤ 1007)
    (hdata : s.data = s.wordNo (s.loop.toNat - 1)) (h : exec .fetch s = .next t) : t.InMixer := by
  have hw : ∀ k, t.wordNo k = s.wordNo k := by
    cases h; exact State.wordNo_congr bound rfl (fun _ => rfl)
  have hl : t.loop.toNat = s.loop.toNat + 1 := by
    cases h
    simp only [State.goto_loop, BitVec.toNat_add, BitVec.toNat_ofNat]
    omega
  have hlast : t.dataLast = s.data := by cases h; rfl
  have hnew : t.data = s.wordNo s.loop.toNat := by
    cases h; exact congrArg s.wordAt (fetchOffset_succ s.loop)
  have hstep : t.step = Code.m0 := by cases h; rfl
  exact
    { lo := by rw [hstep]
      hi := by rw [hstep]; decide
      loop := by omega
      loopExtension := fun hx => absurd (hstep ▸ hx) (by decide)
      data := by rw [hw, hl, hnew]; rfl
      dataLast := by rw [hw, hl, hlast, hdata]; rfl
      dataNext := fun hx => absurd (hstep ▸ hx) (by decide)
      rotr5 := fun hx => absurd (hstep ▸ hx) (by decide)
      rotl2 := fun hx => absurd (hstep ▸ hx) (by decide) }

/-- `code` is a step of the mixer, and moving there from `old` enters neither the extension block nor the range where
`ROTR5` or `ROTL2` is carried. -/
abbrev PlainSuccessor (old code : BitVec 5) : Prop :=
  Code.m0.toNat ≤ code.toNat ∧ code.toNat ≤ Code.x12.toNat ∧
    ∀ entry ∈ [Code.x15, Code.m7, Code.m8], entry.toNat ≤ code.toNat → entry.toNat ≤ old.toNat

/-- A step of the mixer that writes a word of `BUF` and moves on keeps what the mixer carries. -/
theorem State.InMixer.setBuf_goto {s : State} (h : s.InMixer) {old code : BitVec 5} (hs : old = s.step)
    (hp : PlainSuccessor old code) (j : Fin 16) (v : Word) : ((s.setBuf j v).goto code).InMixer := by
  subst hs
  obtain ⟨lo, hi, entry⟩ := hp
  exact
    { lo := lo
      hi := hi
      loop := h.loop
      loopExtension := fun hx => h.loopExtension (entry _ (by simp) hx)
      data := h.data
      dataLast := h.dataLast
      dataNext := fun hx => h.dataNext (entry _ (by simp) hx)
      rotr5 := fun hx => h.rotr5 (entry _ (by simp) hx)
      rotl2 := fun hx => h.rotl2 (entry _ (by simp) hx) }

theorem State.InMixer.of_execM4 {s t : State} (hs : s.InMixer) (h : exec .m4 s = .next t) : t.InMixer := by
  cases h
  exact
    { lo := show Code.m0.toNat ≤ Code.m7.toNat by decide
      hi := show Code.m7.toNat ≤ Code.x12.toNat by decide
      loop := hs.loop
      loopExtension := fun hx => absurd (show Code.x15.toNat ≤ Code.m7.toNat from hx) (by decide)
      data := hs.data
      dataLast := hs.dataLast
      dataNext := fun hx => absurd (show Code.x15.toNat ≤ Code.m7.toNat from hx) (by decide)
      rotr5 := fun _ => by simp [rotr32_toNat]
      rotl2 := fun hx => absurd (show Code.m8.toNat ≤ Code.m7.toNat from hx) (by decide) }

theorem State.InMixer.of_execM5 {s t : State} (hs : s.InMixer) (hm5 : Code.m5 = s.step)
    (h : exec .m5 s = .next t) : t.InMixer := by
  cases h
  exact
    { lo := show Code.m0.toNat ≤ Code.m8.toNat by decide
      hi := show Code.m8.toNat ≤ Code.x12.toNat by decide
      loop := hs.loop
      loopExtension := fun hx => absurd (show Code.x15.toNat ≤ Code.m8.toNat from hx) (by decide)
      data := hs.data
      dataLast := hs.dataLast
      dataNext := fun hx => absurd (show Code.x15.toNat ≤ Code.m8.toNat from hx) (by decide)
      rotr5 := fun _ => hs.rotr5 (hm5 ▸ by decide)
      rotl2 := fun _ => by simp [rotl32_toNat] }

/-- `TERM` ends the mixer at `LOOP` 1008 and else enters the extension block with `DATA_NEXT` read. -/
theorem State.InPhase.of_execTerm {s t : State} (bound : s.order ≠ 3#2) (hs : s.InMixer) (hterm : Code.term = s.step)
    (h : exec .term s = .next t) : t.InPhase := by
  rcases execTerm_cases s with ⟨hl, e⟩ | ⟨hl, e⟩ <;> cases e.symm.trans h
  · exact .of_finit rfl (congrArg BitVec.toNat hl)
  · have hw := State.wordNo_congr (t := ({ s.noteRead (termOffset s.loop) with
      dataNext := s.wordAt (termOffset s.loop) }.goto Code.x15)) bound rfl (fun _ => rfl)
    have hne : s.loop.toNat ≠ 1008 := fun e => hl (BitVec.eq_of_toNat_eq e)
    have hloop := hs.loop
    refine State.InMixer.inPhase
      { lo := show Code.m0.toNat ≤ Code.x15.toNat by decide
        hi := show Code.x15.toNat ≤ Code.x12.toNat by decide
        loop := hs.loop
        loopExtension := fun _ => show s.loop.toNat ≤ 1007 by omega
        data := hs.data.trans (hw _).symm
        dataLast := hs.dataLast.trans (hw _).symm
        dataNext := fun _ => (congrArg s.wordAt (termOffset_eq s.loop)).trans (hw _).symm
        rotr5 := fun _ => hs.rotr5 (hterm ▸ by decide)
        rotl2 := fun _ => hs.rotl2 (hterm ▸ by decide) }

/-- `X12` ends an iteration: `DATA` is still the word before the one `FETCH` reads. -/
theorem State.InPhase.of_execX12 {s t : State} (hs : s.InMixer) (hx12 : Code.x12 = s.step)
    (h : exec .x12 s = .next t) : t.InPhase := by
  cases h
  exact .of_fetch rfl (hs.loopExtension (hx12 ▸ by decide)) hs.data

theorem State.InPass.of_execFinit {s t : State} (h : exec .finit s = .next t) : t.InPass := by
  cases h
  exact
    { lo := show Code.f0.toNat ≤ Code.f0.toNat by decide
      hi := show Code.f0.toNat ≤ Code.f3.toNat by decide
      loop := Nat.zero_le _
      fdata := fun hp => absurd (show Code.f1.toNat ≤ Code.f0.toNat from hp) (by decide)
      tmp := fun hp => absurd (show Code.f1.toNat ≤ Code.f0.toNat from hp) (by decide) }

/-- `BUF[LOOP[3:0]]` is `BUF[LOOP mod 16]`. -/
theorem State.bufLoop_eq (s : State) : s.bufLoop = s.bufGet (Fin.ofNat 16 s.loop.toNat) := rfl

theorem State.InPass.of_execF0 {s t : State} (hs : s.InPass) (h : exec .f0 s = .next t) : t.InPass := by
  cases h
  exact
    { lo := show Code.f0.toNat ≤ Code.f1.toNat by decide
      hi := show Code.f1.toNat ≤ Code.f3.toNat by decide
      loop := hs.loop
      fdata := fun _ => s.bufLoop_eq
      tmp := fun _ => by simp }

/-- A step of a pass that writes another word of `CB` than `CB[0]` and moves on keeps what the pass carries. -/
theorem State.InPass.setCb_goto {s : State} (h : s.InPass) {old code : BitVec 5} (hs : old = s.step)
    (hold : Code.f1.toNat ≤ old.toNat) (lo : Code.f0.toNat ≤ code.toNat) (hi : code.toNat ≤ Code.f3.toNat)
    {j : Fin 4} (hj : 0 ≠ j) (v : Word) : ((s.setCb j v).goto code).InPass := by
  subst hs
  exact
    { lo := lo
      hi := hi
      loop := h.loop
      fdata := fun _ => h.fdata hold
      tmp := fun _ => by simpa [hj] using h.tmp hold }

/-- `F3` begins the next pass, or ends the last one. -/
theorem State.InPhase.of_execF3 {s t : State} (hs : s.InPass) (h : exec .f3 s = .next t) : t.InPhase := by
  cases h
  have hloop := hs.loop
  rcases State.nextPass_cases (s.setCb 3 _) with ⟨hl, e⟩ | ⟨hl, e⟩ <;> rw [e]
  · exact .of_fsum rfl (congrArg BitVec.toNat hl)
  · have hne : s.loop.toNat ≠ 15 := fun e => hl (BitVec.eq_of_toNat_eq e)
    exact State.InPass.inPhase
      { lo := show Code.f0.toNat ≤ Code.f0.toNat by decide
        hi := show Code.f0.toNat ≤ Code.f3.toNat by decide
        loop := by simp only [State.goto_loop, State.setCb_loop, BitVec.toNat_add, BitVec.toNat_ofNat]; omega
        fdata := fun hp => absurd (show Code.f1.toNat ≤ Code.f0.toNat from hp) (by decide)
        tmp := fun hp => absurd (show Code.f1.toNat ≤ Code.f0.toNat from hp) (by decide) }

/-! ### Every event keeps the invariant -/

theorem State.Inv.of_idle {s : State} (hs : s.step = Code.idle) (hr : s.regionCanonical) : s.Inv where
  codeLegal := (State.InPhase.of_idle hs).codeLegal
  flagsApart hb := absurd hs ((State.busy_iff s).1 hb)
  sourceBound hb := absurd hs ((State.busy_iff s).1 hb)
  regionCanonical := hr
  loopInRange := (State.InPhase.of_idle hs).loopInRange
  carriedWords := (State.InPhase.of_idle hs).carriedWords

theorem State.Inv.of_inPhase {s : State} (hp : s.InPhase) (hd : s.done = false) (ho : s.order ≠ 3#2)
    (hr : s.regionCanonical) : s.Inv :=
  ⟨hp.codeLegal, fun _ => hd, fun _ => ho, hr, hp.loopInRange, hp.carriedWords⟩

/-- The position of a busy sequencer is established anew by every step but `FSUM`, which ends the computation. -/
theorem State.InPhase.of_exec {i : Instr} {s t : State} (hs : s.InPhase) (bound : s.order ≠ 3#2)
    (hi : encode i = .step s.step) (hfsum : i ≠ .fsum) (h : exec i s = .next t) : t.InPhase := by
  have mixer {code : BitVec 5} (hc : code = s.step) (lo : Code.m0.toNat ≤ code.toNat)
      (hi : code.toNat ≤ Code.x12.toNat) : s.InMixer := hs.inMixer (hc ▸ lo) (hc ▸ hi)
  have pass {code : BitVec 5} (hc : code = s.step) (lo : Code.f0.toNat ≤ code.toNat)
      (hi : code.toNat ≤ Code.f3.toNat) : s.InPass := hs.inPass (hc ▸ lo) (hc ▸ hi)
  cases i with
  | idle => cases h; exact hs
  | init => exact .of_execInit bound h
  | fetch =>
    have hc := (OpWord.step.inj hi).symm
    exact (State.InMixer.of_execFetch bound (hs.loopInRange.fetch hc) (hs.carriedWords.fetch hc) h).inPhase
  | m4 => exact ((mixer (OpWord.step.inj hi) (by decide) (by decide)).of_execM4 h).inPhase
  | m5 =>
    have hc := OpWord.step.inj hi
    exact ((mixer hc (by decide) (by decide)).of_execM5 hc h).inPhase
  | term =>
    have hc := OpWord.step.inj hi
    exact .of_execTerm bound (mixer hc (by decide) (by decide)) hc h
  | x12 =>
    have hc := OpWord.step.inj hi
    exact .of_execX12 (mixer hc (by decide) (by decide)) hc h
  | m0 | m1 | m2 | m3 | m9 | m7 | m6 | m8 | x15 | x14 | x13 | x10 | x11 =>
    have hc := OpWord.step.inj hi
    cases h
    exact ((mixer hc (by decide) (by decide)).setBuf_goto hc (by decide) _ _).inPhase
  | finit => exact (State.InPass.of_execFinit h).inPhase
  | f0 => exact ((pass (OpWord.step.inj hi) (by decide) (by decide)).of_execF0 h).inPhase
  | f1 | f2 =>
    have hc := OpWord.step.inj hi
    cases h
    exact ((pass hc (by decide) (by decide)).setCb_goto hc (by decide) (by decide) (by decide) (by decide) _).inPhase
  | f3 => exact .of_execF3 (pass (OpWord.step.inj hi) (by decide) (by decide)) h
  | fsum => exact absurd rfl hfsum
  | start _ | nopctrl _ | rdctrl | rdstatus | wrseed _ | rdseed | wrorder _ | rdorder | rdchkhi | rdchklo =>
    cases hi

/-- A sequencer step keeps the invariant. -/
theorem State.Inv.of_exec_step {i : Instr} {s t : State} (hs : s.Inv) (hd : decodeStep s.step = .ok i)
    (h : exec i s = .next t) : t.Inv := by
  have hi := encode_of_decodeStep hd
  have frame := SequencerFrame.of_exec hi h
  have hr : t.regionCanonical := by
    unfold State.regionCanonical
    rw [frame.region, frame.regionLen]
    exact hs.regionCanonical
  by_cases hidle : s.step = Code.idle
  · rw [hidle] at hd
    cases hd
    cases h
    exact hs
  · have hb := (State.busy_iff s).2 hidle
    by_cases hfsum : i = .fsum
    · subst hfsum
      cases h
      exact .of_idle rfl hr
    · exact .of_inPhase (hs.inPhase.of_exec (hs.sourceBound hb) hi hfsum h)
        ((frame.done hfsum).trans (hs.flagsApart hb)) (frame.order ▸ hs.sourceBound hb) hr

/-- What waits, what has been observed and how many unspecified values were drawn is no part of the invariant. -/
theorem State.Inv.of_observation {s : State} (hs : s.Inv) (inputs : List Event) (replies : List Word) (draws : Nat) :
    State.Inv { s with inputs := inputs, replies := replies, draws := draws } := by
  by_cases hidle : s.step = Code.idle
  · exact .of_idle hidle hs.regionCanonical
  · have hw := State.wordNo_congr (t := { s with inputs := inputs, replies := replies, draws := draws })
      (hs.sourceBound ((State.busy_iff s).2 hidle)) rfl (fun _ => rfl)
    obtain ⟨legal, flags, source, region, ⟨l1, l2, l3, l4, l5, l6⟩, c⟩ := hs
    exact
      { codeLegal := legal
        flagsApart := flags
        sourceBound := source
        regionCanonical := region
        loopInRange := ⟨l1, l2, l3, l4, l5, l6⟩
        carriedWords :=
          { fetch := fun e => (c.fetch e).trans (hw _).symm
            data := fun lo hi => (c.data lo hi).trans (hw _).symm
            dataLast := fun lo hi => (c.dataLast lo hi).trans (hw _).symm
            dataNext := fun lo hi => (c.dataNext lo hi).trans (hw _).symm
            rotr5 := c.rotr5
            rotl2 := c.rotl2
            fdata := c.fdata
            tmp := c.tmp } }

theorem State.Inv.of_taken {s : State} (hs : s.Inv) (rest : List Event) : State.Inv { s with inputs := rest } :=
  hs.of_observation rest s.replies s.draws

/-- A host operation keeps the invariant. -/
theorem State.Inv.of_hostEffect {i : Instr} {s t : State} (hs : s.Inv) (h : HostEffect i s t) : t.Inv := by
  cases h with
  | observed replies draws => exact hs.of_observation s.inputs replies draws
  | started _ _ _ bound => exact .of_inPhase (.of_init rfl) rfl bound hs.regionCanonical
  | written _ _ idle => exact .of_idle idle hs.regionCanonical

end Sys2Proof.Machine
end

section
/-! The invariant of a run through every event. -/

namespace Sys2Proof.Machine

/-- Settles O15: each of the five things a completing step can be keeps the invariant. -/
theorem everyStepKeepsTheRunInvariant : Obligations.EveryStepKeepsTheRunInvariant := by
  intro s t hs h
  rcases step_next_cases h with ⟨i, s', turn, hd, hx⟩ | ⟨i, access, rest, _, hd, hx⟩ |
    ⟨access, rest, _, _, rfl⟩ | ⟨rest, _, rfl⟩ | ⟨o, b, rest, _, hx⟩
  · rcases turn with ⟨_, rfl⟩ | ⟨rest, _, rfl⟩
    · exact hs.of_exec_step hd hx
    · exact (hs.of_taken rest).of_exec_step hd hx
  · exact (hs.of_taken rest).of_hostEffect (.of_exec (encode_of_decodeHost hd) hx)
  · obtain ⟨replies, e⟩ := nullAccess_eq access { s with inputs := rest }
    rw [e]
    exact hs.of_observation rest replies s.draws
  · exact .of_idle rfl hs.regionCanonical
  · rcases platformStore_next hx with rfl | ⟨idle, rfl⟩
    · exact hs.of_taken rest
    · exact .of_idle idle (State.storedRegion_wf hs.regionCanonical o b)

end Sys2Proof.Machine
end

section
/-! The other statements of the state family, each from what an instruction and an event can do. -/

namespace Sys2Proof.Machine

/-! ### The flags and the result -/

theorem HostEffect.keeps_done_false {i : Instr} {s t : State} (h : HostEffect i s t) (hd : s.done = false) :
    t.done = false := by
  cases h with
  | observed _ _ => exact hd
  | started _ _ _ _ => rfl
  | written _ _ _ => exact hd

/-- A result stays valid through every event that does not end it: the block is idle, so none of them reaches it. -/
theorem step_keeps_result {s t : State} (hs : s.Inv) (hd : s.done = true) (hr : ¬ s.endsResult)
    (h : step s = .next t) : t.done = true ∧ t.chkHi = s.chkHi ∧ t.chkLo = s.chkLo := by
  have idle : s.step = Code.idle := by
    by_contra hb
    exact absurd (hs.flagsApart ((State.busy_iff s).2 hb)) (by simp [hd])
  rcases step_next_cases h with ⟨i, s', turn, hi, hx⟩ | ⟨i, access, rest, hin, hi, hx⟩ |
    ⟨access, rest, _, _, rfl⟩ | ⟨rest, hin, _⟩ | ⟨o, b, rest, _, hx⟩
  · rw [idle] at hi
    cases hi
    cases hx
    rcases turn with ⟨_, rfl⟩ | ⟨rest, _, rfl⟩ <;> exact ⟨hd, rfl, rfl⟩
  · cases HostEffect.of_exec (encode_of_decodeHost hi) hx with
    | observed _ _ => exact ⟨hd, rfl, rfl⟩
    | started wdata he _ bound =>
      subst he
      obtain ⟨rfl, hbit⟩ := startBit_of_decodeHost hi
      exact absurd (.inr ⟨wdata, rest, hin, hbit, (State.not_busy_iff s).2 idle, bound⟩) hr
    | written _ _ _ => exact ⟨hd, rfl, rfl⟩
  · obtain ⟨replies, e⟩ := nullAccess_eq access { s with inputs := rest }
    rw [e]
    exact ⟨hd, rfl, rfl⟩
  · exact absurd (.inl ⟨rest, hin⟩) hr
  · rcases platformStore_next hx with rfl | ⟨_, rfl⟩ <;> exact ⟨hd, rfl, rfl⟩

/-- `DONE` rises only when the sequencer moves and `STEP` holds `FSUM` (10_state.md R29). -/
theorem fsum_of_done_rises {s t : State} (h : step s = .next t) (hs : s.done = false) (ht : t.done = true) :
    s.step = Code.fsum ∧ (s.inputs = [] ∨ ∃ rest, s.inputs = .tick :: rest) := by
  have stays : ¬ t.done = false := by simp [ht]
  rcases step_next_cases h with ⟨i, s', turn, hi, hx⟩ | ⟨i, access, rest, _, hi, hx⟩ |
    ⟨access, rest, _, _, rfl⟩ | ⟨rest, _, rfl⟩ | ⟨o, b, rest, _, hx⟩
  · have hi := encode_of_decodeStep hi
    have hs' : s'.done = false := by rcases turn with ⟨_, rfl⟩ | ⟨_, _, rfl⟩ <;> exact hs
    have hfsum : i = .fsum := by
      by_contra hne
      exact stays (((SequencerFrame.of_exec hi hx).done hne).trans hs')
    subst hfsum
    refine ⟨(OpWord.step.inj hi).symm, ?_⟩
    rcases turn with ⟨hin, _⟩ | ⟨rest, hin, _⟩
    · exact .inl hin
    · exact .inr ⟨rest, hin⟩
  · exact absurd ((HostEffect.of_exec (encode_of_decodeHost hi) hx).keeps_done_false hs) stays
  · obtain ⟨replies, e⟩ := nullAccess_eq access { s with inputs := rest }
    exact absurd (by rw [e]; exact hs) stays
  · exact absurd (hardReset_done _) stays
  · rcases platformStore_next hx with rfl | ⟨_, rfl⟩ <;> exact absurd hs stays

/-- Settles O17: while a result stands the block is idle, and of all steps only `FSUM` sets `DONE`. -/
theorem resultHoldsUntilStartOrReset : Obligations.ResultHoldsUntilStartOrReset :=
  ⟨fun _ _ => step_keeps_result, fun _ _ => fsum_of_done_rises⟩

/-! ### The words of `BUF` -/

theorem State.setBuf_goto_bufGet_ne (s : State) {i j : Fin 16} (h : (j == i) = false) (v : Word) (code : BitVec 5) :
    ((s.setBuf i v).goto code).bufGet j = s.bufGet j :=
  State.setBuf_bufGet_ne s v (beq_eq_false_iff_ne.1 h)

theorem HostEffect.bufGet {i : Instr} {s t : State} (h : HostEffect i s t) (j : Fin 16) : t.bufGet j = s.bufGet j := by
  cases h <;> rfl

theorem exec_bufGet_of_not_writesBuf {i : Instr} {s t : State} {j : Fin 16} (hj : Ref.writesBuf i j = false)
    (h : exec i s = .next t) : t.bufGet j = s.bufGet j := by
  cases i with
  | init => cases hj
  | m0 | m1 | m2 | m3 | m9 | m4 | m7 | m6 | m5 | m8 | x15 | x14 | x13 | x10 | x11 | x12 =>
    cases h
    exact State.setBuf_goto_bufGet_ne _ hj _ _
  | term => rcases execTerm_cases s with ⟨_, e⟩ | ⟨_, e⟩ <;> cases e.symm.trans h <;> rfl
  | f3 =>
    cases h
    rcases State.nextPass_cases (s.setCb 3 _) with ⟨_, e⟩ | ⟨_, e⟩ <;> rw [e] <;> rfl
  | idle | fetch | finit | f0 | f1 | f2 | fsum => cases h; rfl
  | start _ | nopctrl _ | rdctrl | rdstatus | wrseed _ | rdseed | wrorder _ | rdorder | rdchkhi | rdchklo =>
    exact (HostEffect.of_exec rfl h).bufGet j

/-- Settles O23: every instruction completes, and `exec_bufGet_of_not_writesBuf` reads the word after it. -/
theorem stepsWriteOnlyTheirBufWords : Obligations.StepsWriteOnlyTheirBufWords := by
  intro i s j hj
  obtain ⟨t, h⟩ := exec_completes i s
  exact ⟨t, h, exec_bufGet_of_not_writesBuf hj h⟩

/-! ### The region -/

theorem State.SameRegion.of_eq {s t : State} (hr : t.region = s.region) (hl : t.regionLen = s.regionLen) :
    s.SameRegion t := fun o => by rw [State.readByte_eq, State.readByte_eq, hr, hl]

theorem HostEffect.keeps_region_and_reads {i : Instr} {s t : State} (h : HostEffect i s t) :
    t.region = s.region ∧ t.regionLen = s.regionLen ∧ t.reads = s.reads := by
  cases h <;> exact ⟨rfl, rfl, rfl⟩

/-- Settles O24: by the frame of a sequencer step and the effects of a host operation. -/
theorem onlyThreeStepsReadTheRegionAndNoneWritesIt : Obligations.OnlyThreeStepsReadTheRegionAndNoneWritesIt := by
  intro i s
  obtain ⟨t, h⟩ := exec_completes i s
  rcases exec_next_cases h with frame | ⟨_, _, effect⟩
  · exact ⟨t, h, frame.region, frame.regionLen, .of_eq frame.region frame.regionLen, frame.reads⟩
  · obtain ⟨region, regionLen, reads⟩ := effect.keeps_region_and_reads
    exact ⟨t, h, region, regionLen, .of_eq region regionLen, fun _ _ _ => reads⟩

/-! ### The status word -/

theorem State.busy_toNat (s : State) : s.busy.toNat = if s.step = Code.idle then 0 else 1 := by
  by_cases h : s.step = Code.idle
  · simp [h, (State.not_busy_iff s).2 h]
  · simp [h, (State.busy_iff s).2 h]

/-- In a state of a run `STATUS` is never 3: `BUSY` and `DONE` are apart (10_state.md R29). -/
theorem State.Inv.statusWord_cases {s : State} (hs : s.Inv) :
    s.statusWord = 0#32 ∨ s.statusWord = 1#32 ∨ s.statusWord = 2#32 := by
  have value := s.statusWord_toNat
  cases hb : s.busy with
  | true =>
    rw [hb, hs.flagsApart hb] at value
    exact .inr (.inl (BitVec.eq_of_toNat_eq value))
  | false =>
    rw [hb] at value
    cases hd : s.done with
    | true => rw [hd] at value; exact .inr (.inr (BitVec.eq_of_toNat_eq value))
    | false => rw [hd] at value; exact .inl (BitVec.eq_of_toNat_eq value)

/-- Settles O56: the datum is the status word, by its value and by the invariant. -/
theorem statusReadReturnsDoneAndBusy : Obligations.StatusReadReturnsDoneAndBusy := by
  intro s
  refine ⟨s.statusWord, ?_, rfl, fun hs => hs.statusWord_cases⟩
  rw [State.statusWord_toNat, State.busy_toNat]

/-! ### Fetch and reset -/

/-- Settles O11: one lemma for each way an instruction is fetched. -/
theorem stepRunsTheDecodedInstruction : Obligations.StepRunsTheDecodedInstruction :=
  fun _ _ => ⟨step_of_nothing_waiting, fun _ => step_of_tick, fun _ _ => step_of_host⟩

/-- Settles O13: power-on by the reset state's own values, the event by what `hardReset` assigns and leaves. -/
theorem resetAssignsTheStatedValues : Obligations.ResetAssignsTheStatedValues := by
  refine ⟨⟨State.reset_step, rfl, State.reset_done, State.reset_seed, State.reset_order, State.reset_done⟩, ?_⟩
  intro s rest h
  exact ⟨_, step_of_reset h, hardReset_step _, hardReset_busy _, hardReset_done _, hardReset_seed _,
    hardReset_order _, hardReset_done _, hardReset_readByte _, hardReset_region _, hardReset_regionLen _, hardReset_inputs _,
    hardReset_replies _, hardReset_reads _⟩

/-- Settles O14: the reset state is idle and its region canonical. -/
theorem resetMeetsTheRunInvariant : Obligations.ResetMeetsTheRunInvariant :=
  .of_idle State.reset_step reset_region_wf

end Sys2Proof.Machine
end

section
/-! Rules about the region that the memory family's statements share: the word assembled from four bytes, a platform
store, the draw a word read makes. -/

namespace Sys2Proof.Machine

/-! ### Words (20_memory.md R64) -/

/-- A concatenation read as a number: the low part is below `2 ^ w`, so the OR is a sum. -/
theorem append_toNat_eq_add {v w : Nat} (x : BitVec v) (y : BitVec w) :
    (x ++ y).toNat = x.toNat * 2 ^ w + y.toNat := by
  rw [BitVec.toNat_append, ← Nat.shiftLeft_add_eq_or_of_lt y.isLt, Nat.shiftLeft_eq]

/-- Four bytes, the most significant first. -/
theorem bytes_toNat (b0 b1 b2 b3 : Byte) :
    (b0 ++ b1 ++ b2 ++ b3).toNat = b0.toNat * 2 ^ 24 + b1.toNat * 2 ^ 16 + b2.toNat * 2 ^ 8 + b3.toNat := by
  simp only [append_toNat_eq_add]
  ring

theorem order_cases {order : BitVec 2} (h : order ≠ 3#2) : order = 0#2 ∨ order = 1#2 ∨ order = 2#2 := by
  decide +revert

theorem assemble_toNat {order : BitVec 2} (h : order ≠ 3#2) (b0 b1 b2 b3 : Byte) (v : Word) :
    (assemble order b0 b1 b2 b3 v).toNat = Ref.word order.toNat b0.toNat b1.toNat b2.toNat b3.toNat := by
  rcases order_cases h with rfl | rfl | rfl
  · exact bytes_toNat b0 b1 b2 b3
  · exact bytes_toNat b1 b0 b3 b2
  · exact bytes_toNat b3 b2 b1 b0

theorem State.wordAt_eq (s : State) (o : Offset) :
    s.wordAt o = assemble s.order (s.readByte o) (s.readByte (o + 1#12)) (s.readByte (o + 2#12))
      (s.readByte (o + 3#12)) (Config.freeValue s.draws) := rfl

theorem State.wordAt_unbound {s : State} (h : s.order = 3#2) (o : Offset) : s.wordAt o = Config.freeValue s.draws := by
  rw [State.wordAt_eq, h, assemble_unbound]

/-- A byte `k` further on is at the offset plus `k`, in 12 bits. -/
theorem offset_add (o : Offset) (k : Nat) : BitVec.ofNat 12 (o.toNat + k) = o + BitVec.ofNat 12 k := by
  rw [BitVec.ofNat_add, BitVec.ofNat_toNat, BitVec.setWidth_eq]

/-- A word read draws an unspecified value exactly when no Word Source is bound. -/
theorem State.noteRead_draws_eq (s : State) (o : Offset) :
    (s.noteRead o).draws = if s.order = 3#2 then s.draws + 1 else s.draws := by
  simp only [State.noteRead_draws, State.unbound_iff]

/-! ### Platform stores (20_memory.md R61, R75) -/

theorem step_of_store {s : State} {o : Offset} {b : Byte} {rest : List Event} (h : s.inputs = .store o b :: rest) :
    step s = platformStore o b { s with inputs := rest } := by
  simp only [step, fetch, h]

/-- What every byte reads after a platform store into a canonical region. -/
theorem State.readByte_of_stored {s t : State} (hs : s.regionCanonical) {o : Offset} {b : Byte}
    (hr : t.region = s.storedRegion o b) (hl : t.regionLen = s.regionLen) (a : Offset) :
    t.readByte a = if a.toNat < s.regionLen then (if a = o then b else s.readByte a) else 0#8 := by
  rw [State.readByte_eq, hr, hl]
  by_cases ha : a.toNat < s.regionLen
  · have hread : s.readByte a = Memory.read s.region a.toNat := if_pos ha
    simp only [if_pos ha, hread]
    by_cases ho : o.toNat < s.regionLen
    · rw [State.storedRegion_backed ho, Memory.read_write hs.1]
      simp only [BitVec.toNat_inj]
    · have hne : a ≠ o := fun e => ho (e ▸ ha)
      rw [State.storedRegion_unbacked ho, if_neg hne]
  · simp only [if_neg ha]

/-- A platform store changes a canonical region exactly when its offset is backed and holds another byte. -/
theorem State.storedRegion_ne_iff {s : State} (hs : s.regionCanonical) (o : Offset) (b : Byte) :
    s.storedRegion o b ≠ s.region ↔ o.toNat < s.regionLen ∧ s.readByte o ≠ b := by
  by_cases ho : o.toNat < s.regionLen
  · rw [State.storedRegion_backed ho, Ne, Memory.write_eq_self_iff hs, State.readByte_eq, if_pos ho]
    simp only [ho, true_and]
  · simp only [State.storedRegion_unbacked ho, ho, false_and, ne_eq, not_true_eq_false]

end Sys2Proof.Machine
end

section
/-! The control of a computation, apart from its words: the step to run, `LOOP` and the region reads issued so far
follow the table of 30_encoding.md R93 on their own, so that a run can be followed without its data. -/

namespace Sys2Proof.Machine

/-! ### What a sequencer step does to the control -/

/-- The value of `LOOP` after a step that found `loop` in it. -/
def loopAfter : Instr → Nat → Nat
  | .init, _ | .finit, _ => 0
  | .fetch, loop => (loop + 1) % 2 ^ 11
  | .f3, loop => if loop = 15 then loop else (loop + 1) % 2 ^ 11
  | _, loop => loop

/-- The offsets a step reads that finds `loop` in `LOOP` (20_memory.md R68). -/
def readsOf : Instr → Nat → List Nat
  | .init, _ => [0]
  | .fetch, loop => [4 * loop % 2 ^ 12]
  | .term, loop => if loop = 1008 then [] else [4 * loop % 2 ^ 12]
  | _, _ => []

/-- What a sequencer step with successor `j` does to the queue, `STEP`, `LOOP` and the observed reads. -/
structure ControlEffect (i j : Instr) (s t : State) : Prop where
  inputs : t.inputs = s.inputs
  step : encode j = .step t.step
  loop : t.loop.toNat = loopAfter i s.loop.toNat
  reads : t.reads.map BitVec.toNat = readsOf i s.loop.toNat ++ s.reads.map BitVec.toNat

theorem loop_succ_toNat (loop : BitVec 11) : (loop + 1#11).toNat = (loop.toNat + 1) % 2 ^ 11 := by
  simp only [BitVec.toNat_add, BitVec.toNat_ofNat, Nat.add_mod_mod]

theorem ControlEffect.of_execFetch {s t : State} (h : exec .fetch s = .next t) : ControlEffect .fetch .m0 s t := by
  cases h
  refine ⟨rfl, rfl, loop_succ_toNat s.loop, ?_⟩
  show (fetchOffset (s.loop + 1#11)).toNat :: _ = _
  rw [fetchOffset_succ, BitVec.toNat_ofNat]
  rfl

theorem ControlEffect.of_execTerm {j : Instr} {s t : State} (hj : Ref.successor .term s.loop.toNat = some j)
    (h : exec .term s = .next t) : ControlEffect .term j s t := by
  have hj : (if s.loop.toNat = 1008 then Instr.finit else .x15) = j := Option.some.inj hj
  rcases execTerm_cases s with ⟨hl, e⟩ | ⟨hl, e⟩ <;> cases e.symm.trans h
  · have hl : s.loop.toNat = 1008 := congrArg BitVec.toNat hl
    rw [if_pos hl] at hj
    subst hj
    exact ⟨rfl, rfl, rfl, by simp [readsOf, hl]⟩
  · have hl : s.loop.toNat ≠ 1008 := fun e => hl (BitVec.eq_of_toNat_eq e)
    rw [if_neg hl] at hj
    subst hj
    refine ⟨rfl, rfl, rfl, ?_⟩
    show (termOffset s.loop).toNat :: _ = _
    rw [termOffset_eq, BitVec.toNat_ofNat]
    simp only [readsOf, if_neg hl]
    rfl

theorem ControlEffect.of_execF3 {j : Instr} {s t : State} (hj : Ref.successor .f3 s.loop.toNat = some j)
    (h : exec .f3 s = .next t) : ControlEffect .f3 j s t := by
  have hj : (if s.loop.toNat = 15 then Instr.fsum else .f0) = j := Option.some.inj hj
  cases h
  rcases State.nextPass_cases (s.setCb 3 _) with ⟨hl, e⟩ | ⟨hl, e⟩ <;> rw [e]
  · have hl : s.loop.toNat = 15 := congrArg BitVec.toNat hl
    rw [if_pos hl] at hj
    subst hj
    exact ⟨rfl, rfl, (if_pos hl).symm, rfl⟩
  · have hl : s.loop.toNat ≠ 15 := fun e => hl (BitVec.eq_of_toNat_eq e)
    rw [if_neg hl] at hj
    subst hj
    exact ⟨rfl, rfl, (loop_succ_toNat s.loop).trans (if_neg hl).symm, rfl⟩

theorem ControlEffect.of_exec {i j : Instr} {s t : State} (hj : Ref.successor i s.loop.toNat = some j)
    (h : exec i s = .next t) : ControlEffect i j s t := by
  cases i with
  | fetch => cases hj; exact .of_execFetch h
  | term => exact .of_execTerm hj h
  | f3 => exact .of_execF3 hj h
  | init | m0 | m1 | m2 | m3 | m9 | m4 | m7 | m6 | m5 | m8 | x15 | x14 | x13 | x10 | x11 | x12 | finit | f0 | f1
  | f2 | fsum => cases hj; cases h; exact ⟨rfl, rfl, rfl, rfl⟩
  | idle | start _ | nopctrl _ | rdctrl | rdstatus | wrseed _ | rdseed | wrorder _ | rdorder | rdchkhi | rdchklo =>
    cases hj

/-! ### The control followed alone -/

/-- The step the sequencer is about to run, the value of `LOOP`, and the offsets read so far, newest first. -/
structure Control where
  instr : Instr
  loop : Nat
  reads : List Nat

/-- The control after one sequencer step; where the table of R93 has no successor it stays. -/
def Control.next (c : Control) : Control :=
  match Ref.successor c.instr c.loop with
  | some j => ⟨j, loopAfter c.instr c.loop, readsOf c.instr c.loop ++ c.reads⟩
  | none => c

/-- `s` has the control `c`, and nothing waits that could come between two sequencer steps. -/
structure State.HasControl (s : State) (c : Control) : Prop where
  inputs : s.inputs = []
  step : encode c.instr = .step s.step
  loop : s.loop.toNat = c.loop
  reads : s.reads.map BitVec.toNat = c.reads

theorem decodeStep_of_encode {i : Instr} {code : BitVec 5} (h : encode i = .step code) : decodeStep code = .ok i := by
  cases i <;> cases h <;> rfl

/-- The only sequencer step without a successor is `IDLE`. -/
theorem eq_idle_of_no_successor {i : Instr} {code : BitVec 5} {loop : Nat} (h : encode i = .step code)
    (hn : Ref.successor i loop = none) : i = .idle := by
  cases i with
  | idle => rfl
  | term | f3 => simp only [Ref.successor, reduceCtorEq] at hn
  | init | fetch | m0 | m1 | m2 | m3 | m9 | m4 | m7 | m6 | m5 | m8 | x15 | x14 | x13 | x10 | x11 | x12 | finit | f0
  | f1 | f2 | fsum => cases hn
  | start _ | nopctrl _ | rdctrl | rdstatus | wrseed _ | rdseed | wrorder _ | rdorder | rdchkhi | rdchklo => cases h

theorem State.HasControl.step_next {s : State} {c : Control} (h : s.HasControl c) :
    ∃ t, Machine.step s = .next t ∧ t.HasControl c.next := by
  obtain ⟨hin, hstep, hloop, hreads⟩ := h
  obtain ⟨t, hx⟩ := exec_completes c.instr s
  have hs := (step_of_nothing_waiting hin (decodeStep_of_encode hstep)).trans hx
  refine ⟨t, hs, ?_⟩
  unfold Control.next
  cases hj : Ref.successor c.instr c.loop with
  | some j =>
    have effect := ControlEffect.of_exec (hloop ▸ hj) hx
    exact ⟨effect.inputs.trans hin, effect.step, hloop ▸ effect.loop, hloop ▸ hreads ▸ effect.reads⟩
  | none =>
    rw [eq_idle_of_no_successor hstep hj] at hx
    cases hx
    exact ⟨hin, hstep, hloop, hreads⟩

theorem core_run_succ {s t : State} (h : step s = .next t) (n : Nat) :
    Sys2Proof.core.run (n + 1) s = Sys2Proof.core.run n t := by
  have hs : Sys2Proof.core.step s = .next t := h
  simp only [Host.Core.run, hs]

/-- A run of any number of steps completes and its control is the one followed alone. -/
theorem State.HasControl.run {s : State} {c : Control} (h : s.HasControl c) (n : Nat) :
    ∃ t, Sys2Proof.core.run n s = .next t ∧ t.HasControl (Control.next^[n] c) := by
  induction n generalizing s c with
  | zero => exact ⟨s, rfl, h⟩
  | succ n ih =>
    obtain ⟨u, hstep, hu⟩ := h.step_next
    obtain ⟨t, hrun, ht⟩ := ih hu
    exact ⟨t, (core_run_succ hstep n).trans hrun, ht⟩

/-- The accepted `START` puts the sequencer before `INIT` (45_host_operations.md R201). -/
theorem State.AboutToStart.step_next {s : State} {wdata : Word} (h : s.AboutToStart wdata) :
    ∃ t, Machine.step s = .next t ∧ t.HasControl ⟨.init, s.loop.toNat, s.reads.map BitVec.toNat⟩ := by
  have hd : decode (.host (.write Reg.ctrl wdata)) = .ok (.start wdata) := by
    simp only [decode, decodeHost, Reg.ctrl, h.startBit, if_true]
  have accepted : execStart wdata { s with inputs := [] } =
      .next ({ State.dropResult { s with inputs := [] } with done := false }.goto Code.init) := by
    have idle := (State.not_busy_iff { s with inputs := [] }).2 h.idle
    have bound := (State.bound_iff { s with inputs := [] }).2 h.bound
    simp only [execStart, idle, bound, Bool.or_false, Bool.false_eq_true, if_false]
  exact ⟨_, (step_of_host h.inputs hd).trans accepted, rfl, rfl, rfl, rfl⟩

/-! ### The control of a whole computation -/

theorem Control.next_trans {m n : Nat} {c d e : Control} (hm : Control.next^[m] c = d) (hn : Control.next^[n] d = e) :
    Control.next^[m + n] c = e := by
  rw [Nat.add_comm, Function.iterate_add_apply, hm, hn]

/-- `FETCH` and the core block lead to `TERM`, with one word read. -/
theorem Control.next_core (n : Nat) (r : List Nat) :
    Control.next^[11] ⟨.fetch, n, r⟩ = ⟨.term, (n + 1) % 2 ^ 11, 4 * n % 2 ^ 12 :: r⟩ := rfl

/-- An iteration before the last: the core block, `TERM`, the extension block. -/
theorem Control.next_iteration {n : Nat} (h : n < 1007) (r : List Nat) :
    Control.next^[18] ⟨.fetch, n, r⟩ = ⟨.fetch, n + 1, 4 * (n + 1) :: 4 * n :: r⟩ := by
  have hne : n + 1 ≠ 1008 := by omega
  have term : ∀ r', Control.next ⟨.term, n + 1, r'⟩ = ⟨.x15, n + 1, 4 * (n + 1) :: r'⟩ := fun r' => by
    simp only [Control.next, Ref.successor, loopAfter, readsOf, if_neg hne,
      Nat.mod_eq_of_lt (show 4 * (n + 1) < 2 ^ 12 by omega), List.singleton_append]
  have core : Control.next^[11] ⟨.fetch, n, r⟩ = ⟨.term, n + 1, 4 * n :: r⟩ := by
    rw [Control.next_core, Nat.mod_eq_of_lt (show n + 1 < 2 ^ 11 by omega),
      Nat.mod_eq_of_lt (show 4 * n < 2 ^ 12 by omega)]
  have extension : Control.next^[6] ⟨.x15, n + 1, 4 * (n + 1) :: 4 * n :: r⟩ =
    ⟨.fetch, n + 1, 4 * (n + 1) :: 4 * n :: r⟩ := rfl
  exact Control.next_trans (Control.next_trans (n := 1) core (term _)) extension

/-- The reads of an iteration before the last. -/
theorem Ref.iterationReads_succ {n : Nat} (h : n < 1007) :
    Ref.iterationReads (n + 1) = Ref.iterationReads n ++ [4 * n, 4 * (n + 1)] := by
  rw [Ref.iterationReads, if_neg (by omega)]

theorem Control.next_iterations {n : Nat} (h : n ≤ 1007) (r : List Nat) :
    Control.next^[18 * n] ⟨.fetch, 0, r⟩ = ⟨.fetch, n, (Ref.iterationReads n).reverse ++ r⟩ := by
  induction n with
  | zero => rfl
  | succ n ih =>
    rw [Ref.iterationReads_succ (by omega), List.reverse_append]
    exact Control.next_trans (ih (by omega)) (Control.next_iteration (by omega) _)

/-- The last iteration leaves the mixer at `TERM`, without a look-ahead read. -/
theorem Control.next_last_iteration (r : List Nat) :
    Control.next^[12] ⟨.fetch, 1007, r⟩ = ⟨.finit, 1008, 4 * 1007 :: r⟩ := by
  have core := Control.next_core 1007 r
  have term : Control.next^[1] ⟨.term, 1008, 4 * 1007 :: r⟩ = ⟨.finit, 1008, 4 * 1007 :: r⟩ := by
    simp only [Function.iterate_one, Control.next, Ref.successor, loopAfter, readsOf, if_true, List.nil_append]
  have all := Control.next_trans core term
  exact all

theorem Control.next_passes {n : Nat} (h : n ≤ 15) (r : List Nat) :
    Control.next^[4 * n] ⟨.f0, 0, r⟩ = ⟨.f0, n, r⟩ := by
  induction n with
  | zero => rfl
  | succ n ih =>
    have pass : Control.next^[4] ⟨.f0, n, r⟩ = ⟨.f0, n + 1, r⟩ := by
      have f3 : Control.next ⟨.f3, n, r⟩ = ⟨.f0, n + 1, r⟩ := by
        simp only [Control.next, Ref.successor, loopAfter, readsOf, if_neg (show n ≠ 15 by omega),
          Nat.mod_eq_of_lt (show n + 1 < 2 ^ 11 by omega), List.nil_append]
      exact f3
    exact Control.next_trans (ih (by omega)) pass

/-- `FINIT`, sixteen passes and `FSUM` read nothing and end in `IDLE`. -/
theorem Control.next_finalizer (r : List Nat) : Control.next^[66] ⟨.finit, 1008, r⟩ = ⟨.idle, 15, r⟩ := by
  have finit : Control.next^[1] ⟨.finit, 1008, r⟩ = ⟨.f0, 0, r⟩ := rfl
  have last : Control.next^[5] ⟨.f0, 15, r⟩ = ⟨.idle, 15, r⟩ := rfl
  have all := Control.next_trans (Control.next_trans finit (Control.next_passes le_rfl r)) last
  exact all

/-- The reads of the 1008 iterations: the last one has no look-ahead read. -/
theorem Ref.iterationReads_last : Ref.iterationReads 1008 = Ref.iterationReads 1007 ++ [4 * 1007] := by
  rw [Ref.iterationReads, if_pos rfl]

theorem Ref.readOffsets_reverse_append (r : List Nat) :
    Ref.readOffsets.reverse ++ r = 4 * 1007 :: ((Ref.iterationReads 1007).reverse ++ 0 :: r) := by
  have ends (a : Nat) (l : List Nat) : (0 :: (l ++ [a])).reverse ++ r = a :: (l.reverse ++ 0 :: r) := by simp
  rw [Ref.readOffsets, Ref.iterationReads_last, ends]

/-- From `INIT` the 18205 steps of a computation end in `IDLE`, with the reads of 20_memory.md R68 issued. -/
theorem Control.next_computation (loop : Nat) (r : List Nat) :
    Control.next^[18205] ⟨.init, loop, r⟩ = ⟨.idle, 15, Ref.readOffsets.reverse ++ r⟩ := by
  have init : Control.next^[1] ⟨.init, loop, r⟩ = ⟨.fetch, 0, 0 :: r⟩ := rfl
  have mixer := Control.next_trans (Control.next_iterations le_rfl (0 :: r)) (Control.next_last_iteration _)
  have all := Control.next_trans (Control.next_trans init mixer) (Control.next_finalizer _)
  rw [Ref.readOffsets_reverse_append]
  exact all

end Sys2Proof.Machine
end

section
/-! The order of a computation's region reads (20_memory.md R68). -/

namespace Sys2Proof.Machine

/-- The offsets `0, 0, 4, 4, 8, 8, …` of words 0 to `n - 1`, each twice. -/
def eachWordTwice (n : Nat) : List Nat := (List.range n).flatMap fun j => [4 * j, 4 * j]

theorem eachWordTwice_succ (n : Nat) : eachWordTwice (n + 1) = eachWordTwice n ++ [4 * n, 4 * n] := by
  simp [eachWordTwice, List.range_succ]

theorem eachWordTwice_length (n : Nat) : (eachWordTwice n).length = 2 * n := by
  induction n with
  | zero => rfl
  | succ n ih => rw [eachWordTwice_succ, List.length_append, ih]; rfl

theorem eachWordTwice_count (n j : Nat) : (eachWordTwice n).count (4 * j) = if j < n then 2 else 0 := by
  induction n with
  | zero => rfl
  | succ n ih =>
    rw [eachWordTwice_succ, List.count_append, ih]
    rcases Nat.lt_trichotomy j n with h | rfl | h
    · simp [h, h.trans (Nat.lt_succ_self n), h.ne']
    · simp
    · simp [h.ne, Nat.not_lt.2 h.le, Nat.not_lt.2 (Nat.succ_le_of_lt h)]

theorem mem_eachWordTwice {n o : Nat} : o ∈ eachWordTwice n ↔ ∃ j, j < n ∧ o = 4 * j := by
  simp [eachWordTwice]

/-- The look-ahead read of one iteration is the first read of the next: each word is read twice in a row. -/
theorem Ref.iterationReads_eq {n : Nat} (h : n ≤ 1007) :
    0 :: Ref.iterationReads n ++ [4 * n] = eachWordTwice (n + 1) := by
  induction n with
  | zero => rfl
  | succ n ih =>
    rw [eachWordTwice_succ, ← ih (by omega), Ref.iterationReads_succ (by omega)]
    simp

theorem Ref.readOffsets_eq : Ref.readOffsets = eachWordTwice 1008 := by
  rw [Ref.readOffsets, Ref.iterationReads_last]
  exact Ref.iterationReads_eq le_rfl

/-- Settles O20: the control of a run is followed without its data, and the reads it issues are each word twice. -/
theorem computationReadsEveryWordTwiceInOrder : Obligations.ComputationReadsEveryWordTwiceInOrder := by
  refine ⟨fun s wdata h => ?_, ?_, fun j hj => ?_, fun o ho => ?_⟩
  · obtain ⟨u, hstart, hu⟩ := h.step_next
    obtain ⟨t, hrun, ht⟩ := hu.run 18205
    rw [Control.next_computation] at ht
    exact ⟨t, (core_run_succ hstart 18205).trans hrun, ht.reads⟩
  · rw [Ref.readOffsets_eq, eachWordTwice_length]
  · rw [Ref.readOffsets_eq, eachWordTwice_count, if_pos (Nat.lt_succ_of_le hj)]
  · rw [Ref.readOffsets_eq] at ho
    obtain ⟨j, hj, e⟩ := mem_eachWordTwice.1 ho
    exact ⟨j, Nat.le_of_lt_succ hj, e⟩

end Sys2Proof.Machine
end

section
/-! The other statements of the memory family. -/

namespace Sys2Proof.Machine

/-- Settles O5: by the value of the four bytes in each order, and by the order itself. -/
theorem wordsAssembleByTheByteOrder : Obligations.WordsAssembleByTheByteOrder := by
  refine ⟨fun s o _ hb => ?_, fun s o a b c d _ h => ?_⟩
  · simp only [offset_add]
    exact assemble_toNat hb _ _ _ _ _
  · rcases h with ⟨ho, h0, h1, h2, h3⟩ | ⟨ho, h0, h1, h2, h3⟩ | ⟨ho, h0, h1, h2, h3⟩ <;>
      rw [State.wordAt_eq, ho, h0, h1, h2, h3]
    · exact assemble_big a b c d _
    · exact assemble_swapped b a d c _
    · exact assemble_little d c b a _

/-- Settles O6: while idle the store is taken, and `State.readByte_of_stored` reads the region after it. -/
theorem platformStoreWritesOneRegionByte : Obligations.PlatformStoreWritesOneRegionByte := by
  intro s o b rest hin hidle hs
  rcases platformStore_cases o b { s with inputs := rest } with ⟨_, e⟩ | ⟨hb, _⟩ | ⟨hb, _⟩
  · exact ⟨_, (step_of_store hin).trans e, State.readByte_of_stored hs rfl rfl, rfl⟩
  · exact absurd (hidle.symm.trans hb) (by decide)
  · exact absurd (hidle.symm.trans hb) (by decide)

/-- Settles O7: a busy block refuses exactly the stores that change its region. -/
theorem regionChangeWhileBusyIsRefused : Obligations.RegionChangeWhileBusyIsRefused := by
  intro s o b rest hin hbusy hs
  rw [step_of_store hin]
  have changes := State.storedRegion_ne_iff hs o b
  rcases platformStore_cases o b { s with inputs := rest } with ⟨hb, _⟩ | ⟨_, same, e⟩ | ⟨_, differs, e⟩
  · exact absurd (hbusy.symm.trans hb) (by decide)
  · rw [if_neg (fun h => changes.2 h same), e]
  · rw [if_pos (changes.1 differs), e]

/-- A host operation on a busy block leaves the parameters and the region. -/
theorem HostEffect.keeps_parameters {i : Instr} {s t : State} (h : HostEffect i s t) (hb : s.busy = true) :
    t.seed = s.seed ∧ t.order = s.order ∧ t.regionLen = s.regionLen ∧ s.SameRegion t := by
  have notIdle := (State.busy_iff s).1 hb
  cases h with
  | observed _ _ => exact ⟨rfl, rfl, rfl, .of_eq rfl rfl⟩
  | started _ _ idle _ => exact absurd idle notIdle
  | written _ _ idle => exact absurd idle notIdle

/-- Settles O16: of the events that reach a busy block only the external reset assigns a parameter. -/
theorem seedAndOrderAreFixedWhileBusy : Obligations.SeedAndOrderAreFixedWhileBusy := by
  intro s t hb hr h
  rcases step_next_cases h with ⟨i, s', turn, hd, hx⟩ | ⟨i, access, rest, _, hd, hx⟩ |
    ⟨access, rest, _, _, rfl⟩ | ⟨rest, hin, _⟩ | ⟨o, b, rest, _, hx⟩
  · have frame := SequencerFrame.of_exec (encode_of_decodeStep hd) hx
    rcases turn with ⟨_, rfl⟩ | ⟨rest, _, rfl⟩ <;>
      exact ⟨frame.seed, frame.order, frame.regionLen, .of_eq frame.region frame.regionLen⟩
  · exact (HostEffect.of_exec (encode_of_decodeHost hd) hx).keeps_parameters hb
  · obtain ⟨replies, e⟩ := nullAccess_eq access { s with inputs := rest }
    rw [e]
    exact ⟨rfl, rfl, rfl, .of_eq rfl rfl⟩
  · exact absurd hin (hr rest)
  · rcases platformStore_next hx with rfl | ⟨idle, _⟩
    · exact ⟨rfl, rfl, rfl, .of_eq rfl rfl⟩
    · exact absurd idle ((State.busy_iff s).1 hb)

/-- Settles O51: the offsets read are four times `LOOP` in 12 bits, and the draw is the read's own. -/
theorem wordReadsOutsideARunComplete : Obligations.WordReadsOutsideARunComplete := by
  intro s
  refine ⟨⟨_, rfl, rfl, rfl, s.noteRead_draws_eq initOffset⟩,
    ⟨_, rfl, congrArg s.wordAt (fetchOffset_succ s.loop), rfl, rfl, rfl,
      s.noteRead_draws_eq (fetchOffset (s.loop + 1#11))⟩, fun hl => ?_, fun ho k => State.wordAt_unbound ho _⟩
  rcases execTerm_cases s with ⟨h, _⟩ | ⟨_, e⟩
  · exact absurd (congrArg BitVec.toNat h) hl
  · exact ⟨_, e, congrArg s.wordAt (termOffset_eq s.loop), rfl, s.noteRead_draws_eq (termOffset s.loop)⟩

end Sys2Proof.Machine
end

section
/-! The statements of the encoding family: the decoder and the encoder as inverses, the fault of a reserved step code,
and the successors of the sequencer's table. -/

namespace Sys2Proof.Machine

/-! ### The decoder and the encoder (30_encoding.md R92, R97) -/

theorem decodeHost_of_encode {i : Instr} {access : HostAccess} (hwf : i.wf = true) (h : encode i = .host access) :
    decodeHost access = .ok i := by
  cases i with
  | start wdata => cases h; exact if_pos hwf
  | nopctrl wdata =>
    cases h
    have bit0_clear : wdata.getLsbD 0 = false := by simpa only [Instr.wf, Bool.not_eq_true'] using hwf
    exact if_neg (Bool.eq_false_iff.1 bit0_clear)
  | rdctrl | rdstatus | wrseed _ | rdseed | wrorder _ | rdorder | rdchkhi | rdchklo => cases h; rfl
  | idle | init | fetch | m0 | m1 | m2 | m3 | m9 | m4 | m7 | m6 | m5 | m8 | term | x15 | x14 | x13 | x10 | x11
  | x12 | finit | f0 | f1 | f2 | f3 | fsum => cases h

theorem decode_encode {i : Instr} (hwf : i.wf = true) : decode (encode i) = .ok i := by
  cases hi : encode i with
  | step code => exact decodeStep_of_encode hi
  | host access => exact decodeHost_of_encode hwf hi

theorem encode_of_decode {w : OpWord} {i : Instr} (h : decode w = .ok i) : encode i = w := by
  cases w with
  | step code => exact encode_of_decodeStep h
  | host access => exact encode_of_decodeHost h

/-- The two operations on register 0 are the only terms that can be ill formed, and the decoder tells them apart by
the bit that `Instr.wf` asks of them. -/
theorem wf_of_decode {w : OpWord} {i : Instr} (h : decode w = .ok i) : i.wf = true := by
  have hw := encode_of_decode h
  subst hw
  cases i with
  | start wdata => exact (startBit_of_decodeHost (access := .write Reg.ctrl wdata) h).2
  | nopctrl wdata =>
    cases hbit : wdata.getLsbD 0 with
    | false => simp only [Instr.wf, hbit, Bool.not_false]
    | true => cases (decode_encode (i := .start wdata) hbit).symm.trans h
  | idle | init | fetch | m0 | m1 | m2 | m3 | m9 | m4 | m7 | m6 | m5 | m8 | term | x15 | x14 | x13 | x10 | x11
  | x12 | finit | f0 | f1 | f2 | f3 | fsum | rdctrl | rdstatus | wrseed _ | rdseed | wrorder _ | rdorder | rdchkhi
  | rdchklo => rfl

/-- Settles O8: `decode_encode` one way, `encode_of_decode` and `wf_of_decode` the other. -/
theorem decodeAndEncodeAgree : Obligations.DecodeAndEncodeAgree :=
  ⟨fun _ hwf => decode_encode hwf, fun _ _ h => ⟨wf_of_decode h, encode_of_decode h⟩⟩

/-- Settles O9, by evaluating the decoder on each word. -/
theorem tableWordsDecodeToTheirRows : Obligations.TableWordsDecodeToTheirRows := by
  unfold Obligations.TableWordsDecodeToTheirRows
  decide

/-! ### Reserved step codes (30_encoding.md R102) -/

theorem exists_sequencerTurn_iff (s : State) :
    (∃ s', SequencerTurn s s') ↔ s.inputs = [] ∨ ∃ rest, s.inputs = .tick :: rest := by
  constructor
  · rintro ⟨_, ⟨hin, _⟩ | ⟨rest, hin, _⟩⟩
    · exact .inl hin
    · exact .inr ⟨rest, hin⟩
  · rintro (hin | ⟨rest, hin⟩)
    · exact ⟨s, .inl ⟨hin, rfl⟩⟩
    · exact ⟨_, .inr ⟨rest, hin, rfl⟩⟩

theorem step_of_sequencerTurn {s s' : State} {i : Instr} (turn : SequencerTurn s s') (hd : decodeStep s.step = .ok i) :
    step s = exec i s' := by
  rcases turn with ⟨hin, rfl⟩ | ⟨rest, hin, rfl⟩
  · exact step_of_nothing_waiting hin hd
  · exact step_of_tick hin hd

theorem step_of_sequencerTurn_reserved {s s' : State} (turn : SequencerTurn s s')
    (hd : decodeStep s.step = .error (.reservedStepCode s.step)) : step s = .fault (.reservedStepCode s.step) := by
  rcases turn with ⟨hin, _⟩ | ⟨rest, hin, _⟩ <;> simp only [step, fetch, hin, decode, hd, rejected]

/-- On the sequencer's turn the step completes under a code of the table and faults under a reserved one. -/
theorem step_sequencerTurn_cases {s s' : State} (turn : SequencerTurn s s') :
    (s.step.toNat ≤ 25 ∧ ∃ t, step s = .next t) ∨
      (25 < s.step.toNat ∧ step s = .fault (.reservedStepCode s.step)) := by
  rcases decodeStep_cases s.step with ⟨hcode, i, hd⟩ | ⟨hcode, hd⟩
  · obtain ⟨t, hx⟩ := exec_completes i s'
    exact .inl ⟨hcode, t, (step_of_sequencerTurn turn hd).trans hx⟩
  · exact .inr ⟨hcode, step_of_sequencerTurn_reserved turn hd⟩

theorem step_of_host_rejected {s : State} {access : HostAccess} {rest : List Event}
    (hin : s.inputs = .host access :: rest) (hd : decodeHost access = .error (.noHostOperation access)) :
    step s = .next (nullAccess access { s with inputs := rest }) := by
  simp only [step, fetch, hin, decode, hd, rejected]

/-- A host access completes, whether it is an operation or none (45_host_operations.md R213). -/
theorem step_of_host_completes {s : State} {access : HostAccess} {rest : List Event}
    (hin : s.inputs = .host access :: rest) : ∃ t, step s = .next t := by
  rcases decodeHost_cases access with ⟨i, hd⟩ | hd
  · obtain ⟨t, hx⟩ := exec_completes i { s with inputs := rest }
    exact ⟨t, (step_of_host hin hd).trans hx⟩
  · exact ⟨_, step_of_host_rejected hin hd⟩

theorem platformStore_ne_fault (o : Offset) (b : Byte) (s : State) (f : Fault) : platformStore o b s ≠ .fault f := by
  intro h
  rcases platformStore_cases o b s with ⟨_, e⟩ | ⟨_, _, e⟩ | ⟨_, _, e⟩ <;> cases e.symm.trans h

/-- Only the sequencer's turn can fault. -/
theorem sequencerTurn_of_fault {s : State} {f : Fault} (h : step s = .fault f) : ∃ s', SequencerTurn s s' := by
  rcases hin : s.inputs with _ | ⟨e, rest⟩
  · exact ⟨s, .inl ⟨hin, rfl⟩⟩
  · cases e with
    | tick => exact ⟨_, .inr ⟨rest, hin, rfl⟩⟩
    | host access =>
      obtain ⟨t, ht⟩ := step_of_host_completes hin
      cases ht.symm.trans h
    | reset => cases (step_of_reset hin).symm.trans h
    | store o b => exact absurd ((step_of_store hin).symm.trans h) (platformStore_ne_fault o b _ f)

/-- Settles O10: `step_sequencerTurn_cases` says when a turn faults, `sequencerTurn_of_fault` that nothing else does. -/
theorem reservedStepCodesFault : Obligations.ReservedStepCodesFault := by
  refine ⟨fun s hcode hmove => ?_, fun s f h => ?_⟩
  · obtain ⟨s', turn⟩ := (exists_sequencerTurn_iff s).2 hmove
    rcases step_sequencerTurn_cases turn with ⟨legal, _⟩ | ⟨_, faults⟩
    · exact absurd hcode (Nat.not_lt.2 legal)
    · exact faults
  · obtain ⟨s', turn⟩ := sequencerTurn_of_fault h
    rcases step_sequencerTurn_cases turn with ⟨_, t, completes⟩ | ⟨reserved, faults⟩
    · cases completes.symm.trans h
    · cases faults.symm.trans h
      exact ⟨reserved, rfl, (exists_sequencerTurn_iff s).1 ⟨s', turn⟩⟩

/-! ### Successors (30_encoding.md R93) -/

theorem execStart_accepted {s : State} (idle : s.step = Code.idle) (bound : s.order ≠ 3#2) (wdata : Word) :
    execStart wdata s = .next ({ s.dropResult with done := false }.goto Code.init) := by
  have notBusy := (State.not_busy_iff s).2 idle
  have isBound := (State.bound_iff s).2 bound
  simp only [execStart, notBusy, isBound, Bool.or_false, Bool.false_eq_true, if_false]

/-- Settles O22: the rows of R93 from `ControlEffect.of_exec`, `START` from its acceptance. -/
theorem successorsFollowTheTable : Obligations.SuccessorsFollowTheTable := by
  refine ⟨fun i j s hj => ?_, fun _ => rfl, fun s wdata idle bound => ?_⟩
  · obtain ⟨t, hx⟩ := exec_completes i s
    exact ⟨t, hx, (ControlEffect.of_exec hj hx).step⟩
  · exact ⟨_, execStart_accepted idle bound wdata, rfl⟩

end Sys2Proof.Machine
end

section
/-! The statements of the datapath family: the mixing primitive against its formula on naturals, the rotates bit by
bit. -/

namespace Sys2Proof.Machine

/-! ### The mixing primitive (40_datapath_primitives.md R128, R129) -/

theorem word_sub_toNat (a b : Word) : (a - b).toNat = Ref.sub a.toNat b.toNat := by
  unfold Ref.sub
  have ha := a.isLt
  have hb := b.isLt
  rw [BitVec.toNat_sub]
  split <;> omega

/-- The difference of the halves of the product, which `Mix` returns unless it is 0. -/
def halvesDiff (x y : Word) : Word := hi32 (mul64 x y) - lo32 (mul64 x y)

theorem mix_eq_ite (x y z : Word) :
    mix x y z = if halvesDiff x (if y = 0#32 then z else y) = 0#32 then x
      else halvesDiff x (if y = 0#32 then z else y) := rfl

theorem halvesDiff_toNat (x y : Word) :
    (halvesDiff x y).toNat = Ref.sub (x.toNat * y.toNat / 2 ^ 32) (x.toNat * y.toNat % 2 ^ 32) := by
  rw [halvesDiff, word_sub_toNat, hi32_toNat, lo32_toNat, mul64_toNat]

theorem halvesDiff_zero_left (y : Word) : halvesDiff 0#32 y = 0#32 := by
  apply BitVec.eq_of_toNat_eq
  simp [halvesDiff_toNat, Ref.sub]

theorem mix_toNat (x y z : Word) : (mix x y z).toNat = Ref.mix x.toNat y.toNat z.toNat := by
  have substituted : (if y = 0#32 then z else y).toNat = if y.toNat = 0 then z.toNat else y.toNat := by
    simp only [apply_ite BitVec.toNat, BitVec.toNat_eq, BitVec.toNat_ofNat, Nat.zero_mod]
  simp only [Ref.mix, ← substituted, ← halvesDiff_toNat]
  simp only [mix_eq_ite, apply_ite BitVec.toNat, BitVec.toNat_eq, BitVec.toNat_ofNat, Nat.zero_mod]

/-- Settles O1: both halves of the product and their wrapped difference, read as naturals. -/
theorem mixIsHighMinusLowOfTheProduct : Obligations.MixIsHighMinusLowOfTheProduct := mix_toNat

theorem mix_zero_middle (x z : Word) : mix x 0#32 z = mix x z z := by
  simp only [mix_eq_ite, if_true, ite_self]

theorem mix_congr_of_ne_zero {y : Word} (hy : y ≠ 0#32) (x z z' : Word) : mix x y z = mix x y z' := by
  simp only [mix_eq_ite, if_neg hy]

/-- A zero difference is replaced by `x`, so only `x = 0` gives 0. -/
theorem mix_eq_zero_iff (x y z : Word) : mix x y z = 0#32 ↔ x = 0#32 := by
  rw [mix_eq_ite]
  generalize (if y = 0#32 then z else y) = factor
  by_cases diff_zero : halvesDiff x factor = 0#32
  · rw [if_pos diff_zero]
  · rw [if_neg diff_zero]
    refine ⟨fun h => absurd h diff_zero, fun x_zero => absurd ?_ diff_zero⟩
    rw [x_zero, halvesDiff_zero_left]

/-- Settles O3: the laws from the form of `Mix`, the witnesses of R129 by evaluation. -/
theorem mixSubstitutesZeroAndIsNotCommutative : Obligations.MixSubstitutesZeroAndIsNotCommutative :=
  ⟨mix_zero_middle, fun x _ z z' hy => mix_congr_of_ne_zero hy x z z', mix_eq_zero_iff, by decide, by decide,
    (mix_eq_zero_iff _ _ _).2 rfl, mix_zero_middle _ _, by decide⟩

/-! ### The rotates bit by bit (40_datapath_primitives.md R125, R126) -/

@[simp] theorem rotr32_zero (v : Word) : rotr32 v 0#5 = v := rfl

@[simp] theorem rotl32_zero (v : Word) : rotl32 v 0#5 = v := rfl

theorem rotr32_of_ne_zero {s : BitVec 5} (hs : s ≠ 0#5) (v : Word) :
    rotr32 v s = v >>> s.toNat ||| v <<< (32 - s.toNat) := if_neg hs

theorem rotl32_of_ne_zero {s : BitVec 5} (hs : s ≠ 0#5) (v : Word) :
    rotl32 v s = v <<< s.toNat ||| v >>> (32 - s.toNat) := if_neg hs

/-- At 0 the library's rotation shifts the other part by 32, which leaves nothing of it. -/
theorem rotr32_eq_rotateRight (v : Word) (s : BitVec 5) : rotr32 v s = v.rotateRight s.toNat := by
  by_cases hs : s = 0#5
  · simp [hs, BitVec.rotateRight_def]
  · rw [rotr32_of_ne_zero hs, BitVec.rotateRight_def, Nat.mod_eq_of_lt s.isLt]

theorem rotl32_eq_rotateLeft (v : Word) (s : BitVec 5) : rotl32 v s = v.rotateLeft s.toNat := by
  by_cases hs : s = 0#5
  · simp [hs, BitVec.rotateLeft_def, BitVec.ushiftRight_eq_zero]
  · rw [rotl32_of_ne_zero hs, BitVec.rotateLeft_def, Nat.mod_eq_of_lt s.isLt]

theorem getLsbD_rotr32 (v : Word) (s : BitVec 5) {i : Nat} (hi : i < 32) :
    (rotr32 v s).getLsbD i = v.getLsbD ((i + s.toNat) % 32) := by
  have hs := s.isLt
  rw [rotr32_eq_rotateRight, BitVec.getLsbD_rotateRight_of_lt hs]
  by_cases stays : i < 32 - s.toNat
  · have source : (i + s.toNat) % 32 = s.toNat + i := by omega
    simp [stays, source]
  · have source : (i + s.toNat) % 32 = i - (32 - s.toNat) := by omega
    simp [stays, source, hi]

theorem getLsbD_rotl32 (v : Word) (s : BitVec 5) {i : Nat} (hi : i < 32) :
    (rotl32 v s).getLsbD i = v.getLsbD ((i + 32 - s.toNat) % 32) := by
  have hs := s.isLt
  rw [rotl32_eq_rotateLeft, BitVec.getLsbD_rotateLeft_of_le hs]
  by_cases wraps : i < s.toNat
  · have source : (i + 32 - s.toNat) % 32 = 32 - s.toNat + i := by omega
    simp [wraps, source]
  · have source : (i + 32 - s.toNat) % 32 = i - s.toNat := by omega
    simp [wraps, source, hi]

/-- Settles O2: the values by the rotates read as naturals, the bits by the library's rotations. -/
theorem rotatesMoveEveryBit : Obligations.RotatesMoveEveryBit :=
  fun v s => ⟨rotr32_toNat v s, rotl32_toNat v s, rotr32_zero v, rotl32_zero v, fun _ => getLsbD_rotr32 v s,
    fun _ => getLsbD_rotl32 v s⟩

/-! ### The laws of the rotates (40_datapath_primitives.md R130) -/

/-- Two amounts that go once round the circle together, or not at all. -/
theorem rotr32_eq_rotl32_of_add {s r : BitVec 5} (h : (s.toNat + r.toNat) % 32 = 0) (v : Word) :
    rotr32 v s = rotl32 v r := by
  have hr := r.isLt
  refine BitVec.eq_of_getLsbD_eq fun i hi => ?_
  have source : (i + s.toNat) % 32 = (i + 32 - r.toNat) % 32 := by omega
  rw [getLsbD_rotr32 v s hi, getLsbD_rotl32 v r hi, source]

theorem rotl32_rotr32 (v : Word) (s : BitVec 5) : rotl32 (rotr32 v s) s = v := by
  have hs := s.isLt
  refine BitVec.eq_of_getLsbD_eq fun i hi => ?_
  have back : ((i + 32 - s.toNat) % 32 + s.toNat) % 32 = i := by omega
  rw [getLsbD_rotl32 _ s hi, getLsbD_rotr32 v s (Nat.mod_lt _ (by decide)), back]

/-- Moving every index round the circle permutes the indices. -/
theorem map_add_mod_range_perm (n k : Nat) : ((List.range n).map fun i => (i + k) % n).Perm (List.range n) := by
  have rotated : ((List.range n).map fun i => (i + k) % n) = (List.range n).rotate k :=
    List.ext_getElem (by simp) fun i _ _ => by simp [List.getElem_rotate]
  rw [rotated]
  exact List.rotate_perm _ k

/-- A word whose bits are another's moved round by `k` has as many ones. -/
theorem countP_getLsbD_of_circular {v w : Word} {k : Nat}
    (h : ∀ i, i < 32 → w.getLsbD i = v.getLsbD ((i + k) % 32)) :
    (List.range 32).countP (fun i => w.getLsbD i) = (List.range 32).countP (fun i => v.getLsbD i) := by
  calc (List.range 32).countP (fun i => w.getLsbD i)
      = (List.range 32).countP (fun i => v.getLsbD ((i + k) % 32)) :=
        List.countP_congr fun i hi => by rw [h i (List.mem_range.1 hi)]
    _ = ((List.range 32).map fun i => (i + k) % 32).countP (fun i => v.getLsbD i) := List.countP_map.symm
    _ = (List.range 32).countP (fun i => v.getLsbD i) := (map_add_mod_range_perm 32 k).countP_eq _

theorem countP_rotr32 (v : Word) (s : BitVec 5) :
    (List.range 32).countP (fun i => (rotr32 v s).getLsbD i) = (List.range 32).countP (fun i => v.getLsbD i) :=
  countP_getLsbD_of_circular fun _ => getLsbD_rotr32 v s

theorem countP_rotl32 (v : Word) (s : BitVec 5) :
    (List.range 32).countP (fun i => (rotl32 v s).getLsbD i) = (List.range 32).countP (fun i => v.getLsbD i) :=
  countP_getLsbD_of_circular (k := 32 - s.toNat) fun i hi => by
    rw [getLsbD_rotl32 v s hi, Nat.add_sub_assoc s.isLt.le]

theorem rotr32_zero_word (s : BitVec 5) : rotr32 0#32 s = 0#32 :=
  BitVec.eq_of_getLsbD_eq fun i hi => by
    rw [getLsbD_rotr32 _ s hi, BitVec.getLsbD_zero, BitVec.getLsbD_zero]

theorem rotr32_allOnes (s : BitVec 5) : rotr32 (BitVec.allOnes 32) s = BitVec.allOnes 32 :=
  BitVec.eq_of_getLsbD_eq fun i hi => by
    rw [getLsbD_rotr32 _ s hi, BitVec.getLsbD_allOnes, BitVec.getLsbD_allOnes, decide_eq_true hi,
      decide_eq_true (Nat.mod_lt _ (by decide))]

/-- Settles O4: a right rotate is a left rotate by the rest of the circle, and both only permute the bits. -/
theorem rotatesAreInverseAndKeepTheOnes : Obligations.RotatesAreInverseAndKeepTheOnes := by
  intro v
  refine ⟨rotr32_zero v, rotl32_zero v, fun s hs => ?_, fun s => ?_⟩
  · have left : rotr32 v s = rotl32 v (BitVec.ofNat 5 (32 - s.toNat)) :=
      rotr32_eq_rotl32_of_add (by rw [BitVec.toNat_ofNat]; omega) v
    exact ⟨rotr32_of_ne_zero hs v, by rw [← left, BitVec.or_self], left⟩
  · have left : rotr32 v s = rotl32 v (BitVec.ofNat 5 ((32 - s.toNat) % 32)) :=
      rotr32_eq_rotl32_of_add (by rw [BitVec.toNat_ofNat]; omega) v
    exact ⟨rotl32_rotr32 v s, left, countP_rotr32 v s, countP_rotl32 v s, rotr32_zero_word s, rotr32_allOnes s⟩

end Sys2Proof.Machine
end

section
/-! The statement of the initializer family: what `INIT` writes, and that it writes nothing else. -/

namespace Sys2Proof.Machine

/-! ### The initial word (41_initializer.md R140) -/

/-- The wraps of the product's low half and of the sum are one wrap. -/
theorem initValue_toNat (seedZ w0 : Word) : (initValue seedZ w0).toNat = Ref.init seedZ.toNat w0.toNat := by
  have wraps_once : (lo32 (mul64 magic seedZ) + initAddend).toNat = (0x6C078965 * seedZ.toNat + 1) % 2 ^ 32 := by
    rw [BitVec.toNat_add, lo32_toNat, mul64_toNat]
    exact Nat.mod_add_mod _ _ _
  rw [initValue, BitVec.toNat_xor, wraps_once, Ref.init]

/-- `INIT` with a Word Source bound, where its read draws no unspecified value. -/
theorem execInit_bound {s : State} (bound : s.order ≠ 3#2) :
    execInit s = .next { s with
      buf := Vector.replicate 16 (initValue s.seedZ (s.wordNo 0)), data := s.wordNo 0, loop := 0#11,
      step := Code.fetch, reads := 0#12 :: s.reads } := by
  rw [execInit, State.noteRead_bound bound]
  rfl

/-- Settles O26, by `execInit_bound` and the arithmetic of `initValue_toNat`. -/
theorem initFillsBufFromSeedAndFirstWord : Obligations.InitFillsBufFromSeedAndFirstWord := by
  intro s bound
  refine ⟨_, execInit_bound bound, fun j => ?_, rfl, rfl, rfl, rfl, .of_eq rfl rfl, rfl⟩
  calc
    _ = (initValue s.seedZ (s.wordNo 0)).toNat := congrArg BitVec.toNat (s.fillBuf_bufGet _ j)
    _ = Ref.init s.seed.toNat (s.wordNo 0).toNat := by rw [initValue_toNat, State.seedZ_toNat]

end Sys2Proof.Machine
end

section
/-! The statements of the mixer core family: each step of the core block computes its rule's formula, and writes nothing
else. -/

namespace Sys2Proof.Machine

/-! ### Words read as naturals -/

theorem word_add_toNat (a b : Word) : (a + b).toNat = Ref.add a.toNat b.toNat := BitVec.toNat_add a b

theorem k0_toNat : k0.toNat = 1007 := rfl
theorem k3_toNat : k3.toNat = 5 := rfl
theorem magic_toNat : magic.toNat = 0x6C078965 := rfl

/-- A choice made by an unsigned comparison is the same choice on naturals. -/
theorem ite_ltu_toNat (a b v w : Word) :
    (if ltu a b = true then v else w).toNat = if a.toNat < b.toNat then v.toNat else w.toNat := by
  rw [apply_ite BitVec.toNat]
  exact if_congr (ltu_iff a b) rfl rfl

/-! ### A step that writes one word of `BUF` (42_mixer_core.md R152 to R161) -/

theorem State.OnlyBuf.of_setBuf_goto (s : State) (j : Fin 16) (v : Word) (code : BitVec 5) :
    s.OnlyBuf j ((s.setBuf j v).goto code) where
  others _ hk := s.setBuf_bufGet_ne v hk
  region := .of_eq rfl rfl
  rest := rfl

/-- All that a step writing `BUF[j]` and moving on does, its word read as a natural number. -/
theorem exec_writes_bufWord {i : Instr} {s : State} {j : Fin 16} {v : Word} {code : BitVec 5} {n : Nat}
    (runs : exec i s = .next ((s.setBuf j v).goto code)) (value : v.toNat = n) :
    ∃ t, exec i s = .next t ∧ (t.bufGet j).toNat = n ∧ t.step = code ∧ s.OnlyBuf j t :=
  ⟨_, runs, (congrArg BitVec.toNat (s.setBuf_bufGet_same j v)).trans value, rfl, .of_setBuf_goto s j v code⟩

/-- Settles O28: `Mix` of the wrapped difference, added modulo 2^32. -/
theorem m0AddsMixToBuf0 : Obligations.M0AddsMixToBuf0 :=
  fun s => exec_writes_bufWord rfl (by rw [word_add_toNat, mix_toNat, word_sub_toNat, k0_toNat, s.loopZ_toNat])

/-- Settles O29, by `mix_toNat`. -/
theorem m1MixesBuf1 : Obligations.M1MixesBuf1 :=
  fun s => exec_writes_bufWord rfl (by rw [mix_toNat, s.loopZ_toNat])

/-- Settles O30: XOR of words is XOR of naturals. -/
theorem m2XorsDataIntoBuf2 : Obligations.M2XorsDataIntoBuf2 :=
  fun s => exec_writes_bufWord rfl (BitVec.toNat_xor (s.bufGet 2) s.data)

/-- Settles O31: both sums wrap once each, outside and inside `Mix`. -/
theorem m3AddsMixToBuf3 : Obligations.M3AddsMixToBuf3 :=
  fun s => exec_writes_bufWord rfl
    (by rw [word_add_toNat, mix_toNat, word_add_toNat, k3_toNat, magic_toNat, s.loopZ_toNat])

/-- Settles O32: the comparison as one of naturals, then each arm. -/
theorem m9MixesOrAddsByDataOrder : Obligations.M9MixesOrAddsByDataOrder :=
  fun s => exec_writes_bufWord rfl (by rw [ite_ltu_toNat, mix_toNat, word_add_toNat, s.loopZ_toNat])

/-- Settles O34, with the amount of the rotation as the low five bits. -/
theorem m7MixesLeftRotationIntoBuf7 : Obligations.M7MixesLeftRotationIntoBuf7 :=
  fun s => exec_writes_bufWord rfl (by rw [mix_toNat, rotl32_toNat, Ref.bits_low5, s.loopZ_toNat])

/-- Settles O35: the comparison as one of naturals, then the sums and the XOR of each arm. -/
theorem m6XorsBySizeOfData : Obligations.M6XorsBySizeOfData :=
  fun s => exec_writes_bufWord rfl
    (by simp only [ite_ltu_toNat, BitVec.toNat_xor, word_add_toNat, s.loopZ_toNat])

/-- Settles O37, with the amount of the rotation as the high five bits. -/
theorem m8MixesRightRotationIntoBuf8 : Obligations.M8MixesRightRotationIntoBuf8 :=
  fun s => exec_writes_bufWord rfl (by rw [mix_toNat, rotr32_toNat, Ref.bits_high5, s.loopZ_toNat])

/-! ### The two steps that keep their rotation (42_mixer_core.md R157, R160) -/

/-- Settles O33: the kept rotation is the one added. -/
theorem m4RotatesIntoRotr5AndAddsToBuf4 : Obligations.M4RotatesIntoRotr5AndAddsToBuf4 := by
  intro s
  have rotated : (rotr32 s.data (lo5 s.dataLast)).toNat = Ref.rotr s.data.toNat (Ref.bits s.dataLast.toNat 4 0) := by
    rw [rotr32_toNat, Ref.bits_low5]
  exact ⟨_, rfl, rotated, (congrArg BitVec.toNat (State.setBuf_bufGet_same _ 4 _)).trans (word_add_toNat _ _),
    fun _ hj => State.setBuf_bufGet_ne _ _ hj, rfl, .of_eq rfl rfl, rfl⟩

/-- Settles O36: the kept rotation is the one added. -/
theorem m5RotatesIntoRotl2AndAddsToBuf5 : Obligations.M5RotatesIntoRotl2AndAddsToBuf5 := by
  intro s
  have rotated : (rotl32 s.data (hi5 s.dataLast)).toNat = Ref.rotl s.data.toNat (Ref.bits s.dataLast.toNat 31 27) := by
    rw [rotl32_toNat, Ref.bits_high5]
  exact ⟨_, rfl, rotated, (congrArg BitVec.toNat (State.setBuf_bufGet_same _ 5 _)).trans (word_add_toNat _ _),
    fun _ hj => State.setBuf_bufGet_ne _ _ hj, rfl, .of_eq rfl rfl, rfl⟩

/-! ### The two reading steps (42_mixer_core.md R151, R162) -/

/-- `FETCH` with a Word Source bound: its read draws no unspecified value, and is at the old `LOOP`'s word. -/
theorem execFetch_bound {s : State} (bound : s.order ≠ 3#2) :
    execFetch s = .next { s with
      loop := s.loop + 1#11, dataLast := s.data, data := s.wordNo s.loop.toNat, step := Code.m0,
      reads := BitVec.ofNat 12 (4 * s.loop.toNat) :: s.reads } := by
  simp only [execFetch, fetchOffset_succ, State.noteRead_bound bound]
  rfl

/-- `TERM` at the last iteration. -/
theorem execTerm_last {s : State} (last : s.loop.toNat = 1008) : execTerm s = .next (s.goto Code.finit) :=
  congrArg Host.Outcome.next (if_pos (BitVec.eq_of_toNat_eq last))

/-- `TERM` before the last iteration, with a Word Source bound. -/
theorem execTerm_bound {s : State} (more : s.loop.toNat ≠ 1008) (bound : s.order ≠ 3#2) :
    execTerm s = .next { s with
      dataNext := s.wordNo s.loop.toNat, step := Code.x15,
      reads := BitVec.ofNat 12 (4 * s.loop.toNat) :: s.reads } := by
  have hloop : s.loop ≠ niter := fun e => more (congrArg BitVec.toNat e)
  rw [execTerm, if_neg hloop, termOffset_eq, State.noteRead_bound bound]
  rfl

/-- Settles O38, by the two forms of `TERM`. -/
theorem termStopsAt1008OrReadsAhead : Obligations.TermStopsAt1008OrReadsAhead :=
  fun _ => ⟨execTerm_last, fun more _ bound =>
    ⟨_, execTerm_bound more bound, rfl, rfl, rfl, .of_eq rfl rfl, rfl⟩⟩

/-- Settles O27, by `execFetch_bound`: inside the window the new `LOOP` does not wrap, and one less is the old one. -/
theorem fetchAdvancesLoopAndDataWords : Obligations.FetchAdvancesLoopAndDataWords := by
  intro s bound inWindow
  have advanced : (s.loop + 1#11).toNat = s.loop.toNat + 1 := by
    rw [loop_succ_toNat]
    exact Nat.mod_eq_of_lt (by omega)
  have back : (s.loop + 1#11).toNat - 1 = s.loop.toNat := by rw [advanced, Nat.add_sub_cancel]
  exact ⟨_, execFetch_bound bound, advanced, rfl, congrArg s.wordNo back.symm, rfl,
    congrArg (fun k => BitVec.ofNat 12 (4 * k) :: s.reads) back.symm, .of_eq rfl rfl, rfl⟩

end Sys2Proof.Machine
end

section
/-! The statements of the mixer extension family: each step of the extension block computes its rule's formula, and
writes nothing else. -/

namespace Sys2Proof.Machine

/-! ### Words read as naturals (43_mixer_extension.md R171 to R173) -/

/-- The rotation `X14` and `X13` use, by the low five bits of a data word. -/
theorem rotr32_lo5_toNat (v d : Word) : (rotr32 v (lo5 d)).toNat = Ref.rotr v.toNat (Ref.bits d.toNat 4 0) := by
  rw [rotr32_toNat, Ref.bits_low5]

/-- The rotation `X15` uses, by the high five bits of a data word. -/
theorem rotl32_hi5_toNat (v d : Word) : (rotl32 v (hi5 d)).toNat = Ref.rotl v.toNat (Ref.bits d.toNat 31 27) := by
  rw [rotl32_toNat, Ref.bits_high5]

/-- Two applications of `Mix` in a row with the same `LOOP`, as `X15` and `X14` make them. -/
theorem mix_mix_loopZ_toNat (s : State) (x y y' : Word) :
    (mix (mix x y s.loopZ) y' s.loopZ).toNat =
      Ref.mix (Ref.mix x.toNat y.toNat s.loop.toNat) y'.toNat s.loop.toNat := by
  rw [mix_toNat, mix_toNat, s.loopZ_toNat]

/-! ### The steps of the extension block (43_mixer_extension.md R171 to R176) -/

/-- Settles O39: both mixes, the second with the left rotation by the high five bits. -/
theorem x15MixesTwiceIntoBuf15 : Obligations.X15MixesTwiceIntoBuf15 :=
  fun s => exec_writes_bufWord rfl (by rw [mix_mix_loopZ_toNat, rotl32_hi5_toNat])

/-- Settles O40: both mixes, the second with the right rotation by the low five bits. -/
theorem x14MixesTwiceIntoBuf14 : Obligations.X14MixesTwiceIntoBuf14 :=
  fun s => exec_writes_bufWord rfl (by rw [mix_mix_loopZ_toNat, rotr32_lo5_toNat])

/-- Settles O41: the machine adds the rotations one after the other, the rule adds their sum; modulo 2^32 the two
groupings agree. -/
theorem x13AddsSelfRotationsToBuf13 : Obligations.X13AddsSelfRotationsToBuf13 :=
  fun s => exec_writes_bufWord rfl
    (by rw [BitVec.add_assoc, word_add_toNat, word_add_toNat, rotr32_lo5_toNat, rotr32_lo5_toNat])

/-- Settles O42: the sum wraps before it is mixed. -/
theorem x10MixesSumIntoBuf10 : Obligations.X10MixesSumIntoBuf10 :=
  fun s => exec_writes_bufWord rfl (by rw [mix_toNat, word_add_toNat, s.loopZ_toNat])

/-- Settles O43: `Mix` of the XOR, which is the XOR of naturals. -/
theorem x11MixesXorIntoBuf11 : Obligations.X11MixesXorIntoBuf11 :=
  fun s => exec_writes_bufWord rfl (by rw [mix_toNat, BitVec.toNat_xor, s.loopZ_toNat])

/-- Settles O44: the XOR of words is that of naturals, and only the sum wraps. -/
theorem x12AddsXorToBuf12 : Obligations.X12AddsXorToBuf12 :=
  fun s => exec_writes_bufWord rfl (by rw [word_add_toNat, BitVec.toNat_xor])

end Sys2Proof.Machine
end

section
/-! The statements of the finalizer family about single steps: each step computes its rule's formula, and writes nothing
else. -/

namespace Sys2Proof.Machine

/-! ### Bits of a data word read as naturals (44_finalizer.md R184, R185) -/

theorem bit0_iff_bits (v : Word) : bit0 v = true ↔ Ref.bits v.toNat 0 0 = 1 := by
  simp only [bit0_iff, Ref.bits, Nat.pow_zero, Nat.div_one, Nat.sub_self, Nat.zero_add, Nat.pow_one]

theorem bit1_eq_bit0_iff_bits (v : Word) : bit1 v = bit0 v ↔ Ref.bits v.toNat 1 1 = Ref.bits v.toNat 0 0 := by
  rw [Bool.eq_iff_iff, bit1_iff, bit0_iff]
  simp only [Ref.bits]
  omega

/-! ### A step that writes one word of `CB` (44_finalizer.md R183, R184) -/

theorem State.OnlyCb.of_setCb_goto (s : State) (j : Fin 4) (v : Word) (code : BitVec 5) :
    s.OnlyCb j ((s.setCb j v).goto code) where
  others _ hk := s.setCb_cbGet_ne v hk
  region := .of_eq rfl rfl
  rest := rfl

/-- All that a step writing `CB[j]` and moving on does, its word read as a natural number. -/
theorem exec_writes_cbWord {i : Instr} {s : State} {j : Fin 4} {v : Word} {code : BitVec 5} {n : Nat}
    (runs : exec i s = .next ((s.setCb j v).goto code)) (value : v.toNat = n) :
    ∃ t, exec i s = .next t ∧ (t.cbGet j).toNat = n ∧ t.step = code ∧ s.OnlyCb j t :=
  ⟨_, runs, (congrArg BitVec.toNat (s.setCb_cbGet_same j v)).trans value, rfl, .of_setCb_goto s j v code⟩

/-- Settles O47: the comparison as one of naturals, then each arm. -/
theorem f1AddsOrMixesByTmp : Obligations.F1AddsOrMixesByTmp :=
  fun s => exec_writes_cbWord rfl (by rw [ite_ltu_toNat, word_add_toNat, mix_toNat, s.loopZ_toNat])

/-- Settles O48: the comparison of the two low bits as one of naturals, then each arm. -/
theorem f2AddsOrMixesByLowBits : Obligations.F2AddsOrMixesByLowBits :=
  fun s => exec_writes_cbWord rfl
    (by simp only [apply_ite BitVec.toNat, bit1_eq_bit0_iff_bits, word_add_toNat, mix_toNat, s.loopZ_toNat])

/-! ### The steps that write more than one word of `CB` (44_finalizer.md R181, R182, R185, R186) -/

/-- Settles O45: `FINIT` fills `CB` with one word. -/
theorem finitLoadsCbFromBuf0 : Obligations.FinitLoadsCbFromBuf0 :=
  fun s => ⟨_, rfl, s.fillCb_cbGet (s.bufGet 0), rfl, rfl, .of_eq rfl rfl, rfl⟩

/-- The low four bits of `LOOP` name the word of `BUF` that its value modulo 16 names. -/
theorem Ref.fin_bits_low4 (n : Nat) : Fin.ofNat 16 (Ref.bits n 3 0) = Fin.ofNat 16 n :=
  Fin.ext (by simp only [Ref.bits, Fin.val_ofNat]; omega)

/-- Settles O46: `CB[0]` gets the word `TMP` keeps, the self-rotation by the low five bits. -/
theorem f0AddsSelfRotationToCb0 : Obligations.F0AddsSelfRotationToCb0 := by
  intro s
  have sum : (s.cbGet 0 + rotr32 s.bufLoop (lo5 s.bufLoop)).toNat =
      Ref.add (s.cbGet 0).toNat (Ref.rotr s.bufLoop.toNat (Ref.bits s.bufLoop.toNat 4 0)) := by
    rw [word_add_toNat, rotr32_lo5_toNat]
  have index : s.bufLoop = s.bufGet (Fin.ofNat 16 (Ref.bits s.loop.toNat 3 0)) := by
    rw [Ref.fin_bits_low4, s.bufLoop_eq]
  exact ⟨_, rfl, index, sum, State.setCb_cbGet_same _ 0 _, fun _ hj => State.setCb_cbGet_ne _ _ hj, rfl,
    .of_eq rfl rfl, rfl⟩

/-- The word of `CB[3]` that `F3` writes, as a natural number (R185). -/
theorem f3_word_toNat (s : State) :
    (if bit0 s.fdata = true then s.cbGet 3 ^^^ s.fdata else mix (s.cbGet 3) s.fdata s.loopZ).toNat =
      if Ref.bits s.fdata.toNat 0 0 = 1 then (s.cbGet 3).toNat ^^^ s.fdata.toNat
      else Ref.mix (s.cbGet 3).toNat s.fdata.toNat s.loop.toNat := by
  simp only [apply_ite BitVec.toNat, bit0_iff_bits, BitVec.toNat_xor, mix_toNat, s.loopZ_toNat]

/-- The loop control of a pass changes `LOOP` and `STEP` alone. -/
theorem State.nextPass_eq (s : State) :
    s.nextPass = { s with
      loop := if s.loop.toNat = 15 then s.loop else s.loop + 1#11
      step := if s.loop.toNat = 15 then Code.fsum else Code.f0 } := by
  rcases s.nextPass_cases with ⟨last, e⟩ | ⟨more, e⟩ <;> rw [e]
  · have last : s.loop.toNat = 15 := congrArg BitVec.toNat last
    simp only [if_pos last]
    rfl
  · have more : s.loop.toNat ≠ 15 := fun h => more (BitVec.eq_of_toNat_eq h)
    simp only [if_neg more]
    rfl

/-- Settles O49: the word of `CB[3]`, then the loop control by `State.nextPass_eq`. -/
theorem f3XorsOrMixesAndCountsThePass : Obligations.F3XorsOrMixesAndCountsThePass := by
  intro s
  refine ⟨_, congrArg Host.Outcome.next (State.nextPass_eq _), ?_, fun _ hj => s.setCb_cbGet_ne _ hj, ?_,
    .of_eq rfl rfl, rfl⟩
  · exact (congrArg BitVec.toNat (s.setCb_cbGet_same 3 _)).trans (f3_word_toNat s)
  · by_cases last : s.loop.toNat = 15
    · rw [if_pos last]
      exact ⟨if_pos last, if_pos last⟩
    · rw [if_neg last]
      exact ⟨if_neg last, if_neg last⟩

/-- The low 48 bits of a 64-bit word given by its halves: the low 16 bits of the high half above the low half. -/
theorem low48_of_halves (hi : Nat) {lo : Nat} (h : lo < 2 ^ 32) :
    hi % 2 ^ 16 * 2 ^ 32 + lo = (hi * 2 ^ 32 ||| lo) % 2 ^ 48 := by
  rw [Nat.mul_comm hi, ← Nat.two_pow_add_eq_or_of_lt h]
  omega

/-- Settles O50: the two result words by `mix_toNat` and XOR, their 48-bit layout by `low48_of_halves`. -/
theorem fsumExtractsTheChecksumAndSetsDone : Obligations.FsumExtractsTheChecksumAndSetsDone := by
  intro s
  have high : ((mix (s.cbGet 0) (s.cbGet 1) ksum).extractLsb' 0 16).toNat =
      Ref.mix (s.cbGet 0).toNat (s.cbGet 1).toNat 16 % 2 ^ 16 := by
    rw [BitVec.extractLsb'_toNat, Nat.shiftRight_zero, mix_toNat]
    rfl
  have low : (s.cbGet 3 ^^^ s.cbGet 2).toNat = (s.cbGet 3).toNat ^^^ (s.cbGet 2).toNat := BitVec.toNat_xor _ _
  have layout := low48_of_halves (Ref.mix (s.cbGet 0).toNat (s.cbGet 1).toNat 16) (s.cbGet 3 ^^^ s.cbGet 2).isLt
  rw [← high, low] at layout
  exact ⟨_, rfl, high, low, low ▸ layout, rfl, rfl, rfl, rfl, .of_eq rfl rfl, rfl⟩

end Sys2Proof.Machine
end

section
/-! How long a computation takes: the control followed alone reaches `FSUM` one step before its end, and `IDLE` is never
left (44_finalizer.md R188). -/

namespace Sys2Proof.Machine

/-- `FINIT` and the sixteen passes end before `FSUM`. -/
theorem Control.next_to_fsum (r : List Nat) : Control.next^[65] ⟨.finit, 1008, r⟩ = ⟨.fsum, 15, r⟩ := by
  have finit : Control.next^[1] ⟨.finit, 1008, r⟩ = ⟨.f0, 0, r⟩ := rfl
  have last : Control.next^[4] ⟨.f0, 15, r⟩ = ⟨.fsum, 15, r⟩ := rfl
  have all := Control.next_trans (Control.next_trans finit (Control.next_passes le_rfl r)) last
  exact all

/-- One step before the end of a computation the sequencer is at `FSUM`. -/
theorem Control.next_before_last (loop : Nat) (r : List Nat) :
    (Control.next^[18204] ⟨.init, loop, r⟩).instr = .fsum := by
  have init : Control.next^[1] ⟨.init, loop, r⟩ = ⟨.fetch, 0, 0 :: r⟩ := rfl
  have mixer := Control.next_trans (Control.next_iterations le_rfl (0 :: r)) (Control.next_last_iteration _)
  have all := Control.next_trans (Control.next_trans init mixer) (Control.next_to_fsum _)
  exact congrArg Control.instr all

/-- Nothing of the control leaves `IDLE`. -/
theorem Control.next_idle {c : Control} (h : c.instr = .idle) (n : Nat) : Control.next^[n] c = c :=
  Function.iterate_fixed (by rw [Control.next, h, Ref.successor]) n

/-- An earlier `IDLE` would stand where `FSUM` does. -/
theorem Control.next_computation_idle_iff {n : Nat} (h : n ≤ 18205) (loop : Nat) (r : List Nat) :
    (Control.next^[n] ⟨.init, loop, r⟩).instr = .idle ↔ n = 18205 := by
  constructor
  · intro idle
    by_contra early
    have stays : Control.next^[18204] ⟨.init, loop, r⟩ = Control.next^[n] ⟨.init, loop, r⟩ := by
      rw [← Nat.sub_add_cancel (show n ≤ 18204 by omega), Function.iterate_add_apply, Control.next_idle idle]
    have atFsum := Control.next_before_last loop r
    rw [stays, idle] at atFsum
    cases atFsum
  · rintro rfl
    rw [Control.next_computation]

theorem State.HasControl.idle_iff {s : State} {c : Control} (h : s.HasControl c) :
    s.step = Code.idle ↔ c.instr = .idle := by
  constructor
  · intro idle
    have decoded := decodeStep_of_encode h.step
    rw [idle] at decoded
    exact (Except.ok.inj decoded).symm
  · intro idle
    have encoded := h.step
    rw [idle] at encoded
    exact (OpWord.step.inj encoded).symm

/-- Settles O19: every run completes with the control followed alone, which is in `IDLE` at step 18205 and not before. -/
theorem computationTakes18205Steps : Obligations.ComputationTakes18205Steps := by
  intro s wdata h n hn
  obtain ⟨u, hstart, hu⟩ := h.step_next
  obtain ⟨t, hrun, ht⟩ := hu.run n
  exact ⟨t, (core_run_succ hstart n).trans hrun, ht.idle_iff.trans (Control.next_computation_idle_iff hn _ _)⟩

end Sys2Proof.Machine
end

section
/-! The registers of the datapath read as natural numbers, and what each sequencer step makes of them: the machine's
half of the computation's refinement (44_finalizer.md R187). -/

namespace Sys2Proof.Machine

/-! ### The registers on naturals -/

/-- The registers a computation writes beside `STEP` and `LOOP`, read as natural numbers. -/
structure Values where
  buf : Vector Nat 16
  cb : Vector Nat 4
  dataLast : Nat
  data : Nat
  dataNext : Nat
  rotr5 : Nat
  rotl2 : Nat
  fdata : Nat
  tmp : Nat
  done : Bool
  chkHi : Nat
  chkLo : Nat

/-- The values the registers of `s` hold. -/
def State.values (s : State) : Values where
  buf := s.buf.map BitVec.toNat
  cb := s.cb.map BitVec.toNat
  dataLast := s.dataLast.toNat
  data := s.data.toNat
  dataNext := s.dataNext.toNat
  rotr5 := s.rotr5.toNat
  rotl2 := s.rotl2.toNat
  fdata := s.fdata.toNat
  tmp := s.tmp.toNat
  done := s.done
  chkHi := s.chkHi.toNat
  chkLo := s.chkLo.toNat

/-- The words a computation reads, `W(k)` on naturals. -/
def State.words (s : State) (k : Nat) : Nat := (s.wordNo k).toNat

/-- One step on naturals, as the rules of 41_initializer.md to 44_finalizer.md write it, with `loop` in `LOOP`, the
seed `seed` and the words `w`. A host operation is no step of a computation. -/
def Values.after (seed : Nat) (w : Nat → Nat) (i : Instr) (loop : Nat) (v : Values) : Values :=
  match i with
  | .init => { v with buf := Vector.replicate 16 (Ref.init seed (w 0)), data := w 0 }
  | .fetch => { v with dataLast := v.data, data := w loop }
  | .m0 => { v with buf := v.buf.set 0 (Ref.add v.buf[0] (Ref.mix (Ref.sub 1007 loop) v.data loop)) }
  | .m1 => { v with buf := v.buf.set 1 (Ref.mix v.buf[1] v.data loop) }
  | .m2 => { v with buf := v.buf.set 2 (v.buf[2] ^^^ v.data) }
  | .m3 => { v with buf := v.buf.set 3 (Ref.add v.buf[3] (Ref.mix (Ref.add v.data 5) 0x6C078965 loop)) }
  | .m9 => { v with
      buf := v.buf.set 9 (if v.dataLast < v.data then Ref.mix v.buf[9] v.data loop else Ref.add v.buf[9] v.data) }
  | .m4 => { v with
      rotr5 := Ref.rotr v.data (Ref.bits v.dataLast 4 0)
      buf := v.buf.set 4 (Ref.add v.buf[4] (Ref.rotr v.data (Ref.bits v.dataLast 4 0))) }
  | .m7 => { v with buf := v.buf.set 7 (Ref.mix v.buf[7] (Ref.rotl v.data (Ref.bits v.dataLast 4 0)) loop) }
  | .m6 => { v with
      buf := v.buf.set 6 (if v.data < v.buf[6] then Ref.add v.buf[3] v.buf[6] ^^^ Ref.add v.data loop
        else Ref.add v.buf[4] v.data ^^^ v.buf[6]) }
  | .m5 => { v with
      rotl2 := Ref.rotl v.data (Ref.bits v.dataLast 31 27)
      buf := v.buf.set 5 (Ref.add v.buf[5] (Ref.rotl v.data (Ref.bits v.dataLast 31 27))) }
  | .m8 => { v with buf := v.buf.set 8 (Ref.mix v.buf[8] (Ref.rotr v.data (Ref.bits v.dataLast 31 27)) loop) }
  | .term => { v with dataNext := if loop = 1008 then v.dataNext else w loop }
  | .x15 => { v with
      buf := v.buf.set 15
        (Ref.mix (Ref.mix v.buf[15] v.rotl2 loop) (Ref.rotl v.dataNext (Ref.bits v.data 31 27)) loop) }
  | .x14 => { v with
      buf := v.buf.set 14
        (Ref.mix (Ref.mix v.buf[14] v.rotr5 loop) (Ref.rotr v.dataNext (Ref.bits v.data 4 0)) loop) }
  | .x13 => { v with
      buf := v.buf.set 13 (Ref.add v.buf[13]
        (Ref.add (Ref.rotr v.data (Ref.bits v.data 4 0)) (Ref.rotr v.dataNext (Ref.bits v.dataNext 4 0)))) }
  | .x10 => { v with buf := v.buf.set 10 (Ref.mix (Ref.add v.buf[10] v.data) v.dataNext loop) }
  | .x11 => { v with buf := v.buf.set 11 (Ref.mix (v.buf[11] ^^^ v.data) v.dataNext loop) }
  | .x12 => { v with buf := v.buf.set 12 (Ref.add v.buf[12] (v.buf[8] ^^^ v.data)) }
  | .finit => { v with cb := Vector.replicate 4 v.buf[0] }
  | .f0 =>
    let d := v.buf[loop % 16]'(Nat.mod_lt loop (by decide))
    let tmp := Ref.add v.cb[0] (Ref.rotr d (Ref.bits d 4 0))
    { v with fdata := d, tmp := tmp, cb := v.cb.set 0 tmp }
  | .f1 => { v with
      cb := v.cb.set 1 (if v.fdata < v.tmp then Ref.add v.cb[1] v.fdata else Ref.mix v.cb[1] v.fdata loop) }
  | .f2 => { v with
      cb := v.cb.set 2 (if Ref.bits v.fdata 1 1 = Ref.bits v.fdata 0 0 then Ref.add v.cb[2] v.fdata
        else Ref.mix v.cb[2] v.fdata loop) }
  | .f3 => { v with
      cb := v.cb.set 3 (if Ref.bits v.fdata 0 0 = 1 then v.cb[3] ^^^ v.fdata else Ref.mix v.cb[3] v.fdata loop) }
  | .fsum => { v with
      chkHi := Ref.mix v.cb[0] v.cb[1] 16 % 2 ^ 16, chkLo := v.cb[3] ^^^ v.cb[2], done := true }
  | .idle | .start _ | .nopctrl _ | .rdctrl | .rdstatus | .wrseed _ | .rdseed | .wrorder _ | .rdorder
  | .rdchkhi | .rdchklo => v

/-! ### The words of `BUF` and `CB` among the values -/

theorem State.values_buf_getElem (s : State) (j : Fin 16) : s.values.buf[j] = (s.bufGet j).toNat :=
  Vector.getElem_map ..

theorem State.values_cb_getElem (s : State) (j : Fin 4) : s.values.cb[j] = (s.cbGet j).toNat :=
  Vector.getElem_map ..

/-- Writing one entry of a vector is all that tells it from the old one. -/
theorem vector_eq_set {n : Nat} {old new : Vector Nat n} {j : Fin n} {x : Nat} (written : new[j] = x)
    (others : ∀ k : Fin n, k ≠ j → new[k] = old[k]) : new = old.set j x := by
  refine Vector.ext fun k hk => ?_
  rw [Vector.getElem_set]
  by_cases same : j.val = k
  · subst same
    rwa [if_pos rfl]
  · rw [if_neg same]
    exact others ⟨k, hk⟩ fun e => same (congrArg Fin.val e).symm

theorem State.values_buf_eq_set {s t : State} {j : Fin 16} {n : Nat} (written : (t.bufGet j).toNat = n)
    (others : ∀ k : Fin 16, k ≠ j → t.bufGet k = s.bufGet k) : t.values.buf = s.values.buf.set j n :=
  vector_eq_set (by rw [State.values_buf_getElem, written])
    fun k hk => by rw [State.values_buf_getElem, State.values_buf_getElem, others k hk]

theorem State.values_cb_eq_set {s t : State} {j : Fin 4} {n : Nat} (written : (t.cbGet j).toNat = n)
    (others : ∀ k : Fin 4, k ≠ j → t.cbGet k = s.cbGet k) : t.values.cb = s.values.cb.set j n :=
  vector_eq_set (by rw [State.values_cb_getElem, written])
    fun k hk => by rw [State.values_cb_getElem, State.values_cb_getElem, others k hk]

/-- The values after a step that writes one word of `BUF` and moves on. -/
theorem State.values_of_bufStep {i : Instr} {s t : State} {j : Fin 16} {n m : Nat} {code : BitVec 5}
    (effect : ∃ u, exec i s = .next u ∧ (u.bufGet j).toNat = n ∧ u.step = code ∧ s.OnlyBuf j u)
    (h : exec i s = .next t) (word : n = m) : t.values = { s.values with buf := s.values.buf.set j m } := by
  obtain ⟨u, runs, written, -, only⟩ := effect
  subst word
  cases runs.symm.trans h
  calc
    t.values = { s.values with buf := t.values.buf } := congrArg State.values only.rest
    _ = _ := by rw [State.values_buf_eq_set written only.others]

/-- The values after a step that writes one word of `CB` and moves on. -/
theorem State.values_of_cbStep {i : Instr} {s t : State} {j : Fin 4} {n m : Nat} {code : BitVec 5}
    (effect : ∃ u, exec i s = .next u ∧ (u.cbGet j).toNat = n ∧ u.step = code ∧ s.OnlyCb j u)
    (h : exec i s = .next t) (word : n = m) : t.values = { s.values with cb := s.values.cb.set j m } := by
  obtain ⟨u, runs, written, -, only⟩ := effect
  subst word
  cases runs.symm.trans h
  calc
    t.values = { s.values with cb := t.values.cb } := congrArg State.values only.rest
    _ = _ := by rw [State.values_cb_eq_set written only.others]

/-! ### The steps one by one -/

theorem State.values_of_execInit {s t : State} (bound : s.order ≠ 3#2) (h : exec .init s = .next t) :
    t.values = s.values.after s.seed.toNat s.words .init s.loop.toNat := by
  cases (execInit_bound bound).symm.trans h
  have filled : (Vector.replicate 16 (initValue s.seedZ (s.wordNo 0))).map BitVec.toNat =
      Vector.replicate 16 (Ref.init s.seed.toNat (s.words 0)) := by
    rw [Vector.map_replicate, initValue_toNat, s.seedZ_toNat, State.words]
  simp only [State.values, filled, Values.after]
  rfl

theorem State.values_of_execTerm {s t : State} (bound : s.order ≠ 3#2) (h : exec .term s = .next t) :
    t.values = s.values.after s.seed.toNat s.words .term s.loop.toNat := by
  by_cases last : s.loop.toNat = 1008
  · cases (execTerm_last last).symm.trans h
    rw [Values.after, if_pos last]
    rfl
  · cases (execTerm_bound last bound).symm.trans h
    rw [Values.after, if_neg last]
    rfl

theorem State.values_of_execM4 {s t : State} (h : exec .m4 s = .next t) :
    t.values = s.values.after s.seed.toNat s.words .m4 s.loop.toNat := by
  obtain ⟨u, runs, rotated, written, others, -, -, rest⟩ := m4RotatesIntoRotr5AndAddsToBuf4 s
  cases runs.symm.trans h
  rw [rotated, ← s.values_buf_getElem] at written
  calc
    t.values = { s.values with buf := t.values.buf, rotr5 := t.values.rotr5 } := congrArg State.values rest
    _ = _ := by rw [State.values_buf_eq_set written others, show t.values.rotr5 = _ from rotated]; rfl

theorem State.values_of_execM5 {s t : State} (h : exec .m5 s = .next t) :
    t.values = s.values.after s.seed.toNat s.words .m5 s.loop.toNat := by
  obtain ⟨u, runs, rotated, written, others, -, -, rest⟩ := m5RotatesIntoRotl2AndAddsToBuf5 s
  cases runs.symm.trans h
  rw [rotated, ← s.values_buf_getElem] at written
  calc
    t.values = { s.values with buf := t.values.buf, rotl2 := t.values.rotl2 } := congrArg State.values rest
    _ = _ := by rw [State.values_buf_eq_set written others, show t.values.rotl2 = _ from rotated]; rfl

theorem State.values_of_execFinit {s t : State} (h : exec .finit s = .next t) :
    t.values = s.values.after s.seed.toNat s.words .finit s.loop.toNat := by
  cases h
  have filled : (Vector.replicate 4 (s.bufGet 0)).map BitVec.toNat = Vector.replicate 4 s.values.buf[0] := by
    rw [Vector.map_replicate, ← s.values_buf_getElem]
    rfl
  exact congrArg (fun cb => { s.values with cb := cb }) filled

theorem State.values_of_execF0 {s t : State} (h : exec .f0 s = .next t) :
    t.values = s.values.after s.seed.toNat s.words .f0 s.loop.toNat := by
  obtain ⟨u, runs, loaded, sum, stored, others, -, -, rest⟩ := f0AddsSelfRotationToCb0 s
  cases runs.symm.trans h
  rw [Ref.fin_bits_low4] at loaded
  have loaded : t.fdata.toNat = s.values.buf[s.loop.toNat % 16] :=
    (congrArg BitVec.toNat loaded).trans (s.values_buf_getElem _).symm
  rw [loaded, ← s.values_cb_getElem] at sum
  have written : (t.cbGet 0).toNat = _ := (congrArg BitVec.toNat stored).trans sum
  calc
    t.values = { s.values with cb := t.values.cb, fdata := t.values.fdata, tmp := t.values.tmp } :=
      congrArg State.values rest
    _ = _ := by
      rw [State.values_cb_eq_set written others, show t.values.fdata = _ from loaded,
        show t.values.tmp = _ from sum]
      rfl

theorem State.values_of_execF3 {s t : State} (h : exec .f3 s = .next t) :
    t.values = s.values.after s.seed.toNat s.words .f3 s.loop.toNat := by
  obtain ⟨u, runs, written, others, -, -, rest⟩ := f3XorsOrMixesAndCountsThePass s
  cases runs.symm.trans h
  rw [← s.values_cb_getElem] at written
  calc
    t.values = { s.values with cb := t.values.cb } := congrArg State.values rest
    _ = _ := by rw [State.values_cb_eq_set written others]; rfl

theorem State.values_of_execFsum {s t : State} (h : exec .fsum s = .next t) :
    t.values = s.values.after s.seed.toNat s.words .fsum s.loop.toNat := by
  obtain ⟨u, runs, high, low, -, done, -, -, -, -, rest⟩ := fsumExtractsTheChecksumAndSetsDone s
  cases runs.symm.trans h
  simp only [← s.values_cb_getElem] at high low
  calc
    t.values = { s.values with chkHi := t.values.chkHi, chkLo := t.values.chkLo, done := t.values.done } :=
      congrArg State.values rest
    _ = _ := by
      rw [show t.values.chkHi = _ from high, show t.values.chkLo = _ from low, show t.values.done = _ from done]
      rfl

/-- The commuting diagram of the refinement: a sequencer step does to the values what its rule says. -/
theorem State.values_of_exec {i : Instr} {code : BitVec 5} {s t : State} (hi : encode i = .step code)
    (bound : s.order ≠ 3#2) (h : exec i s = .next t) :
    t.values = s.values.after s.seed.toNat s.words i s.loop.toNat := by
  have read (j : Fin 16) := (s.values_buf_getElem j).symm
  cases i with
  | idle => cases h; rfl
  | init => exact values_of_execInit bound h
  | fetch => cases (execFetch_bound bound).symm.trans h; rfl
  | term => exact values_of_execTerm bound h
  | m4 => exact values_of_execM4 h
  | m5 => exact values_of_execM5 h
  | finit => exact values_of_execFinit h
  | f0 => exact values_of_execF0 h
  | f3 => exact values_of_execF3 h
  | fsum => exact values_of_execFsum h
  | m0 => exact values_of_bufStep (m0AddsMixToBuf0 s) h (by simp only [read]; rfl)
  | m1 => exact values_of_bufStep (m1MixesBuf1 s) h (by simp only [read]; rfl)
  | m2 => exact values_of_bufStep (m2XorsDataIntoBuf2 s) h (by simp only [read]; rfl)
  | m3 => exact values_of_bufStep (m3AddsMixToBuf3 s) h (by simp only [read]; rfl)
  | m9 => exact values_of_bufStep (m9MixesOrAddsByDataOrder s) h (by simp only [read]; rfl)
  | m7 => exact values_of_bufStep (m7MixesLeftRotationIntoBuf7 s) h (by simp only [read]; rfl)
  | m6 => exact values_of_bufStep (m6XorsBySizeOfData s) h (by simp only [read]; rfl)
  | m8 => exact values_of_bufStep (m8MixesRightRotationIntoBuf8 s) h (by simp only [read]; rfl)
  | x15 => exact values_of_bufStep (x15MixesTwiceIntoBuf15 s) h (by simp only [read]; rfl)
  | x14 => exact values_of_bufStep (x14MixesTwiceIntoBuf14 s) h (by simp only [read]; rfl)
  | x13 => exact values_of_bufStep (x13AddsSelfRotationsToBuf13 s) h (by simp only [read]; rfl)
  | x10 => exact values_of_bufStep (x10MixesSumIntoBuf10 s) h (by simp only [read]; rfl)
  | x11 => exact values_of_bufStep (x11MixesXorIntoBuf11 s) h (by simp only [read]; rfl)
  | x12 => exact values_of_bufStep (x12AddsXorToBuf12 s) h (by simp only [read]; rfl)
  | f1 => exact values_of_cbStep (f1AddsOrMixesByTmp s) h (by rw [← s.values_cb_getElem]; rfl)
  | f2 => exact values_of_cbStep (f2AddsOrMixesByLowBits s) h (by rw [← s.values_cb_getElem]; rfl)
  | start _ | nopctrl _ | rdctrl | rdstatus | wrseed _ | rdseed | wrorder _ | rdorder | rdchkhi | rdchklo =>
    cases hi

end Sys2Proof.Machine
end

section
/-! The values along a whole computation: they follow the control, block by block, to the checksum
(44_finalizer.md R187). -/

namespace Sys2Proof.Machine

/-! ### The values followed along the control -/

/-- The values after `n` sequencer steps from the control `c`. -/
def Values.follow (seed : Nat) (w : Nat → Nat) : Nat → Control → Values → Values
  | 0, _, v => v
  | n + 1, c, v => Values.follow seed w n c.next (v.after seed w c.instr c.loop)

theorem Values.follow_add (seed : Nat) (w : Nat → Nat) (m n : Nat) (c : Control) (v : Values) :
    v.follow seed w (m + n) c = (v.follow seed w m c).follow seed w n (Control.next^[m] c) := by
  induction m generalizing c v with
  | zero => rw [Nat.zero_add]; rfl
  | succ m ih =>
    rw [Nat.succ_add]
    exact ih c.next (v.after seed w c.instr c.loop)

/-- Two stretches of a computation in a row, the control between them known. -/
theorem Values.follow_trans {seed : Nat} {w : Nat → Nat} {m n : Nat} {c d : Control} (v : Values)
    (h : Control.next^[m] c = d) : v.follow seed w (m + n) c = (v.follow seed w m c).follow seed w n d := by
  rw [Values.follow_add, h]

/-! ### A run of the machine -/

/-- `s`, reached from `s₀`, has the control `c` and the values `v`, and the parameters of the computation are those of
`s₀`. -/
structure State.Tracks (s₀ : State) (c : Control) (v : Values) (s : State) : Prop where
  control : s.HasControl c
  values : s.values = v
  seed : s.seed = s₀.seed
  order : s.order = s₀.order
  region : s.region = s₀.region
  regionLen : s.regionLen = s₀.regionLen

theorem State.readByte_congr {s t : State} (hr : t.region = s.region) (hl : t.regionLen = s.regionLen) (o : Offset) :
    t.readByte o = s.readByte o := by
  rw [State.readByte_eq, State.readByte_eq, hr, hl]

theorem State.Tracks.words {s₀ s : State} {c : Control} {v : Values} (h : s₀.Tracks c v s) (bound : s₀.order ≠ 3#2) :
    s.words = s₀.words :=
  funext fun k => congrArg BitVec.toNat (State.wordNo_congr bound h.order (State.readByte_congr h.region h.regionLen) k)

theorem State.Tracks.step_next {s₀ s : State} {c : Control} {v : Values} (h : s₀.Tracks c v s)
    (bound : s₀.order ≠ 3#2) :
    ∃ t, Machine.step s = .next t ∧ s₀.Tracks c.next (v.after s₀.seed.toNat s₀.words c.instr c.loop) t := by
  obtain ⟨t, hs, ht⟩ := h.control.step_next
  have hx : exec c.instr s = .next t :=
    (step_of_nothing_waiting h.control.inputs (decodeStep_of_encode h.control.step)).symm.trans hs
  have frame := SequencerFrame.of_exec h.control.step hx
  have values := State.values_of_exec h.control.step (h.order ▸ bound) hx
  rw [h.values, h.seed, h.words bound, h.control.loop] at values
  exact ⟨t, hs, ht, values, frame.seed.trans h.seed, frame.order.trans h.order, frame.region.trans h.region,
    frame.regionLen.trans h.regionLen⟩

theorem State.Tracks.run {s₀ s : State} {c : Control} {v : Values} (h : s₀.Tracks c v s) (bound : s₀.order ≠ 3#2)
    (n : Nat) :
    ∃ t, Sys2Proof.core.run n s = .next t ∧
      s₀.Tracks (Control.next^[n] c) (v.follow s₀.seed.toNat s₀.words n c) t := by
  induction n generalizing s c v with
  | zero => exact ⟨s, rfl, h⟩
  | succ n ih =>
    obtain ⟨u, hstep, hu⟩ := h.step_next bound
    obtain ⟨t, hrun, ht⟩ := ih hu
    exact ⟨t, (core_run_succ hstep n).trans hrun, ht⟩

/-! ### The mixer (42_mixer_core.md, 43_mixer_extension.md) -/

section
variable (seed : Nat) (w : Nat → Nat) (v : Values) (r : List Nat)

/-- What one iteration hands to the next. -/
def Values.mixer (v : Values) : Ref.Mixer := { b := v.buf, data := v.data }

theorem Values.mixer_b : v.mixer.b = v.buf := rfl

/-- The mixer's state before the first iteration. -/
def startMixer : Ref.Mixer := { b := Vector.replicate 16 (Ref.init seed (w 0)), data := w 0 }

theorem Values.follow_init (loop : Nat) : (v.follow seed w 1 ⟨.init, loop, r⟩).mixer = startMixer seed w := rfl

/-- `FETCH` and the core block are the core of an iteration over the word fetched. -/
theorem Values.follow_core {n : Nat} (h : n ≤ 1007) : v.follow seed w 11 ⟨.fetch, n, r⟩ =
    { v with
      buf := (Ref.core (n + 1) (w n) v.data v.buf).1
      data := w n
      dataLast := v.data
      rotr5 := (Ref.core (n + 1) (w n) v.data v.buf).2.1
      rotl2 := (Ref.core (n + 1) (w n) v.data v.buf).2.2 } := by
  have advanced : n + 1 = (n + 1) % 2 ^ 11 := (Nat.mod_eq_of_lt (by omega)).symm
  rw [advanced]
  cases v
  rfl

/-- `TERM` before the last iteration and the extension block. -/
theorem Values.follow_extension {l : Nat} (h : l ≠ 1008) : v.follow seed w 7 ⟨.term, l, r⟩ =
    { v with buf := Ref.extension l v.data (w l) v.rotr5 v.rotl2 v.buf, dataNext := w l } := by
  have term : Control.next^[1] ⟨.term, l, r⟩ = ⟨.x15, l, readsOf .term l ++ r⟩ := by
    simp only [Function.iterate_one, Control.next, Ref.successor, loopAfter, if_neg h]
  have ahead : v.follow seed w 1 ⟨.term, l, r⟩ = { v with dataNext := w l } := by
    simp only [Values.follow, Values.after, if_neg h]
  rw [Values.follow_trans (n := 6) v term, ahead]
  cases v
  rfl

theorem Control.next_core_of_le {n : Nat} (h : n ≤ 1007) :
    Control.next^[11] ⟨.fetch, n, r⟩ = ⟨.term, n + 1, 4 * n % 2 ^ 12 :: r⟩ := by
  rw [Control.next_core, Nat.mod_eq_of_lt (show n + 1 < 2 ^ 11 by omega)]

theorem Values.follow_iteration {n : Nat} (h : n < 1007) :
    (v.follow seed w 18 ⟨.fetch, n, r⟩).mixer = Ref.iteration w (n + 1) v.mixer := by
  have more : n + 1 ≠ 1008 := by omega
  rw [Values.follow_trans (n := 7) v (Control.next_core_of_le r h.le), Values.follow_core seed w v r h.le,
    Values.follow_extension seed w _ _ more]
  simp only [Values.mixer, Ref.iteration, if_neg more, Nat.add_sub_cancel]

theorem Values.follow_last_iteration :
    (v.follow seed w 12 ⟨.fetch, 1007, r⟩).mixer = Ref.iteration w 1008 v.mixer := by
  rw [Values.follow_trans (n := 1) v (Control.next_core_of_le r le_rfl), Values.follow_core seed w v r le_rfl]
  rfl

theorem Values.follow_iterations {n : Nat} (h : n ≤ 1007) :
    (v.follow seed w (18 * n) ⟨.fetch, 0, r⟩).mixer = Ref.iterations w n v.mixer := by
  induction n with
  | zero => rfl
  | succ n ih =>
    rw [Nat.mul_succ, Values.follow_trans v (Control.next_iterations (by omega) r),
      Values.follow_iteration seed w _ _ (by omega), ih (by omega), Ref.iterations]

/-! ### The finalizer (44_finalizer.md) -/

/-- What one pass hands to the next. -/
def Values.condenser (v : Values) : Vector Nat 16 × Vector Nat 4 := (v.buf, v.cb)

/-- `DONE` and the checksum as the host reads it. -/
def Values.result (v : Values) : Bool × Nat × Nat := (v.done, v.chkHi, v.chkLo)

/-- `F0` to `F3`, with `LOOP` unchanged until the last of them is done. -/
theorem Values.follow_pass (n : Nat) : (v.follow seed w 4 ⟨.f0, n, r⟩).condenser =
    (v.buf, Ref.pass n (v.buf[n % 16]'(Nat.mod_lt n (by decide))) v.cb) := by
  cases v
  rfl

theorem Values.follow_passes {n : Nat} (h : n ≤ 16) : (v.follow seed w (4 * n) ⟨.f0, 0, r⟩).condenser =
    (v.buf, Ref.passes v.buf n v.cb) := by
  induction n with
  | zero => rfl
  | succ n ih =>
    obtain ⟨buf, cb⟩ := Prod.mk.inj (ih (by omega))
    rw [Nat.mul_succ, Values.follow_trans v (Control.next_passes (by omega) r), Values.follow_pass, Ref.passes]
    simp only [buf, cb]

/-- The two parts of the checksum, from the words of `CB` after the passes (R186). -/
def checksumOf (cb : Vector Nat 4) : Nat × Nat := (Ref.mix cb[0] cb[1] 16 % 2 ^ 16, cb[3] ^^^ cb[2])

theorem Values.follow_fsum (loop : Nat) : (v.follow seed w 1 ⟨.fsum, loop, r⟩).result = (true, checksumOf v.cb) := rfl

/-- `FINIT`, the sixteen passes and `FSUM`. -/
theorem Values.follow_finalizer : (v.follow seed w 66 ⟨.finit, 1008, r⟩).result =
    (true, checksumOf (Ref.passes v.buf 16 (Vector.replicate 4 v.buf[0]))) := by
  have finit : Control.next^[1] ⟨.finit, 1008, r⟩ = ⟨.f0, 0, r⟩ := rfl
  have filled : v.follow seed w 1 ⟨.finit, 1008, r⟩ = { v with cb := Vector.replicate 4 v.buf[0] } := rfl
  have passed : (v.follow seed w 65 ⟨.finit, 1008, r⟩).condenser =
      (v.buf, Ref.passes v.buf 16 (Vector.replicate 4 v.buf[0])) := by
    rw [Values.follow_trans (n := 4 * 16) v finit, filled, Values.follow_passes seed w _ r le_rfl]
  obtain ⟨-, cb⟩ := Prod.mk.inj passed
  rw [Values.follow_trans (n := 1) v (Control.next_to_fsum r), Values.follow_fsum, cb]

/-! ### The whole computation (44_finalizer.md R187) -/

theorem Ref.iterations_last (m : Ref.Mixer) :
    Ref.iterations w 1008 m = Ref.iteration w 1008 (Ref.iterations w 1007 m) := by
  rw [Ref.iterations]

theorem Ref.checksum48_eq : Ref.checksum48 seed w =
    checksumOf (Ref.passes (Ref.iterations w 1008 (startMixer seed w)).b 16
      (Vector.replicate 4 (Ref.iterations w 1008 (startMixer seed w)).b[0])) := rfl

theorem Values.follow_computation (loop : Nat) :
    (v.follow seed w 18205 ⟨.init, loop, r⟩).result = (true, Ref.checksum48 seed w) := by
  have init : Control.next^[1] ⟨.init, loop, r⟩ = ⟨.fetch, 0, 0 :: r⟩ := rfl
  have iterations := Control.next_trans init (Control.next_iterations (n := 1007) le_rfl (0 :: r))
  have mixer := Control.next_trans iterations (Control.next_last_iteration _)
  have mixed : (v.follow seed w (1 + 18 * 1007 + 12) ⟨.init, loop, r⟩).mixer =
      Ref.iterations w 1008 (startMixer seed w) := by
    rw [Values.follow_trans v iterations, Values.follow_last_iteration, Values.follow_trans v init,
      Values.follow_iterations seed w _ _ le_rfl, Values.follow_init, Ref.iterations_last]
  have total : 18205 = 1 + 18 * 1007 + 12 + 66 := rfl
  rw [total, Values.follow_trans v mixer, Values.follow_finalizer, ← Values.mixer_b, mixed, Ref.checksum48_eq]

end

/-- The accepted `START` leaves the parameters of the computation it begins. -/
theorem State.AboutToStart.step_tracks {s : State} {wdata : Word} (h : s.AboutToStart wdata) :
    ∃ t, Machine.step s = .next t ∧ s.Tracks ⟨.init, s.loop.toNat, s.reads.map BitVec.toNat⟩ t.values t := by
  obtain ⟨t, hstart, control⟩ := h.step_next
  have hd : decode (.host (.write Reg.ctrl wdata)) = .ok (.start wdata) :=
    decode_encode (i := .start wdata) h.startBit
  have hx : execStart wdata { s with inputs := [] } = .next t := (step_of_host h.inputs hd).symm.trans hstart
  refine ⟨t, hstart, ?_⟩
  rcases execStart_cases wdata { s with inputs := [] } with ⟨-, -, e⟩ | e <;> cases e.symm.trans hx <;>
    exact ⟨control, rfl, rfl, rfl, rfl, rfl⟩

/-- Settles O18: a run tracks the values that follow the control, and those end in the checksum. -/
theorem computationIsChecksum48 : Obligations.ComputationIsChecksum48 := by
  intro s wdata h
  obtain ⟨u, hstart, hu⟩ := h.step_tracks
  obtain ⟨t, hrun, ht⟩ := hu.run h.bound 18205
  have result : t.values.result = (true, Ref.checksum48 s.seed.toNat s.words) := by
    rw [ht.values, Values.follow_computation]
  obtain ⟨done, checksum⟩ := Prod.mk.inj result
  have idle := ht.control.idle_iff.2 ((Control.next_computation_idle_iff le_rfl _ _).2 rfl)
  exact ⟨t, (core_run_succ hstart 18205).trans hrun, idle, done, checksum, ht.seed, ht.order,
    .of_eq ht.region ht.regionLen⟩

end Sys2Proof.Machine
end

section
/-! The statements of the host operation family: what each write does while idle and while busy, what each read
returns, and the accesses that are no operation. -/

namespace Sys2Proof.Machine

/-! ### Accesses outside the table (45_host_operations.md R213) -/

theorem decodeHost_write_rejected {reg : Nat} (h : reg = 1 ∨ reg = 4 ∨ reg = 5 ∨ 5 < reg) (wdata : Word) :
    decodeHost (.write reg wdata) = .error (.noHostOperation (.write reg wdata)) := by
  rcases h with rfl | rfl | rfl | beyond
  · rfl
  · rfl
  · rfl
  · obtain ⟨n, rfl⟩ := Nat.exists_eq_add_of_le' (show 6 ≤ reg from beyond)
    rfl

theorem decodeHost_read_rejected {reg : Nat} (beyond : 5 < reg) :
    decodeHost (.read reg) = .error (.noHostOperation (.read reg)) := by
  obtain ⟨n, rfl⟩ := Nat.exists_eq_add_of_le' (show 6 ≤ reg from beyond)
  rfl

/-- Settles O12: the decoder rejects the access, and what it then does is its null effect. -/
theorem accessesOutsideTheTableDoNothing : Obligations.AccessesOutsideTheTableDoNothing := by
  refine fun s reg wdata rest => ⟨fun hin outside => ?_, fun hin beyond => ?_⟩
  · rw [step_of_host_rejected hin (decodeHost_write_rejected outside wdata), nullAccess_write]
  · rw [step_of_host_rejected hin (decodeHost_read_rejected beyond), nullAccess_read]
    rfl

/-! ### `START` and `NOPCTRL` (45_host_operations.md R201 to R203) -/

/-- `START` is silently ignored while busy or with no Word Source bound. -/
theorem execStart_ignored {s : State} (h : ¬ (s.step = Code.idle ∧ s.order ≠ 3#2)) (wdata : Word) :
    execStart wdata s = .next s := by
  rcases execStart_cases wdata s with ⟨idle, bound, _⟩ | ignored
  · exact absurd ⟨idle, bound⟩ h
  · exact ignored

/-- Settles O52: the accepted `START` by `execStart_accepted`, every other by `execStart_ignored`. -/
theorem startRunsOnlyWhenIdleAndBound : Obligations.StartRunsOnlyWhenIdleAndBound := by
  intro s wdata
  split
  case isTrue accepted =>
    obtain ⟨idle, bound⟩ := accepted
    exact ⟨_, execStart_accepted idle bound wdata, rfl, State.goto_step _ _, State.goto_busy _ _, .of_eq rfl rfl, rfl⟩
  case isFalse unfit => exact execStart_ignored unfit wdata

/-- Settles O53: neither operation reads or writes a register. -/
theorem nopctrlAndIdleChangeNothing : Obligations.NopctrlAndIdleChangeNothing :=
  fun _ _ => ⟨rfl, rfl⟩

/-! ### `WRSEED` and `WRORDER` (45_host_operations.md R206, R208) -/

theorem execWrseed_idle {s : State} (idle : s.step = Code.idle) (wdata : Word) :
    execWrseed wdata s = .next { s with seed := seedField wdata } :=
  congrArg Host.Outcome.next (if_neg ((s.busy_iff.not_left).2 idle))

theorem execWrseed_busy {s : State} (busy : s.busy = true) (wdata : Word) : execWrseed wdata s = .next s :=
  congrArg Host.Outcome.next (if_pos busy)

theorem execWrorder_idle {s : State} (idle : s.step = Code.idle) (wdata : Word) :
    execWrorder wdata s = .next { s with order := orderField wdata } :=
  congrArg Host.Outcome.next (if_neg ((s.busy_iff.not_left).2 idle))

theorem execWrorder_busy {s : State} (busy : s.busy = true) (wdata : Word) : execWrorder wdata s = .next s :=
  congrArg Host.Outcome.next (if_pos busy)

/-- Settles O54: the fields kept are the datum's low bits, and a busy block drops both writes. -/
theorem seedAndOrderWritesKeepTheirFieldWhileIdle : Obligations.SeedAndOrderWritesKeepTheirFieldWhileIdle := by
  intro s wdata
  split
  case isTrue idle =>
    exact ⟨⟨_, execWrseed_idle idle wdata, seedField_toNat wdata, .of_eq rfl rfl, rfl⟩,
      ⟨_, execWrorder_idle idle wdata, orderField_toNat wdata, .of_eq rfl rfl, rfl⟩⟩
  case isFalse notIdle =>
    have busy := (State.busy_iff s).2 notIdle
    exact ⟨execWrseed_busy busy wdata, execWrorder_busy busy wdata⟩

/-! ### Host operations during a computation (45_host_operations.md R200, R202) -/

/-- What a host operation does to a busy block is observed by the host alone. -/
theorem HostEffect.eq_of_busy {i : Instr} {s t : State} (h : HostEffect i s t) (busy : s.busy = true) :
    t = { s with replies := t.replies, draws := t.draws } := by
  have notIdle := (State.busy_iff s).1 busy
  cases h with
  | observed _ _ => rfl
  | started _ _ idle _ => exact absurd idle notIdle
  | written _ _ idle => exact absurd idle notIdle

/-- A busy block drops every host write. -/
theorem exec_write_of_busy {i : Instr} {s : State} {reg : Nat} {wdata : Word}
    (hi : encode i = .host (.write reg wdata)) (busy : s.busy = true) : exec i s = .next s := by
  cases i with
  | start datum => exact execStart_ignored (fun accepted => (State.busy_iff s).1 busy accepted.1) datum
  | nopctrl _ => rfl
  | wrseed datum => exact execWrseed_busy busy datum
  | wrorder datum => exact execWrorder_busy busy datum
  | rdctrl | rdstatus | rdseed | rdorder | rdchkhi | rdchklo => cases hi
  | idle | init | fetch | m0 | m1 | m2 | m3 | m9 | m4 | m7 | m6 | m5 | m8 | term | x15 | x14 | x13 | x10 | x11
  | x12 | finit | f0 | f1 | f2 | f3 | fsum => cases hi

/-- Settles O25: of the effects a host operation can have only the observed one is left, and a write has not even
that. -/
theorem hostOperationsDoNotDisturbAComputation : Obligations.HostOperationsDoNotDisturbAComputation := by
  intro i access s hi busy
  obtain ⟨t, hx⟩ := exec_completes i s
  refine ⟨t, hx, (HostEffect.of_exec hi hx).eq_of_busy busy, ?_⟩
  rintro reg wdata rfl
  cases (exec_write_of_busy hi busy).symm.trans hx
  rfl

/-! ### Reads of the configuration (45_host_operations.md R204, R207, R209) -/

/-- Settles O55: zero-extension keeps the value of the register. -/
theorem configurationReadsReturnTheirRegister : Obligations.ConfigurationReadsReturnTheirRegister :=
  fun s => ⟨rfl, ⟨_, BitVec.toNat_setWidth_of_le (by decide), rfl⟩, ⟨_, BitVec.toNat_setWidth_of_le (by decide), rfl⟩⟩

/-! ### Reads of the result (45_host_operations.md R211, R212) -/

theorem execRdchkhi_done {s : State} (done : s.done = true) : execRdchkhi s = .next (s.reply (s.chkHi.setWidth 32)) :=
  congrArg Host.Outcome.next (if_pos done)

theorem execRdchkhi_not_done {s : State} (notDone : ¬ s.done = true) : execRdchkhi s = .next s.replyOpen :=
  congrArg Host.Outcome.next (if_neg notDone)

theorem execRdchklo_done {s : State} (done : s.done = true) : execRdchklo s = .next (s.reply s.chkLo) :=
  congrArg Host.Outcome.next (if_pos done)

theorem execRdchklo_not_done {s : State} (notDone : ¬ s.done = true) : execRdchklo s = .next s.replyOpen :=
  congrArg Host.Outcome.next (if_neg notDone)

/-- Settles O57: with `DONE = 0` the value is the next unspecified one, and its draw is counted. -/
theorem resultReadsReturnTheChecksumOnceDone : Obligations.ResultReadsReturnTheChecksumOnceDone := by
  intro s
  split
  case isTrue done =>
    exact ⟨⟨_, BitVec.toNat_setWidth_of_le (by decide), execRdchkhi_done done⟩, execRdchklo_done done⟩
  case isFalse notDone =>
    exact ⟨⟨_, _, execRdchkhi_not_done notDone⟩, ⟨_, _, execRdchklo_not_done notDone⟩⟩

end Sys2Proof.Machine
end

section
/-! The statement of the exceptions family (60_exceptions.md R230): no instruction stops. The two stops the model's step
has, the reserved step code and the region changed during a computation, come from no instruction. -/

namespace Sys2Proof.Machine

/-- Settles O21: the case split over the 36 constructors is `exec_completes`. An operation that branches
(`TERM` by `LOOP`, `START` by `BUSY` and `ORDER`) chooses between next states, so no branch can stop. -/
theorem noInstructionFaults : Obligations.NoInstructionFaults := exec_completes

end Sys2Proof.Machine
end
